-- ==== Sys2Proof/Word.lean ====
section
/-! DEFINITION. The words, levels and enumerations the spec names (00 R14, 10 R30, 10 R41, 30 R84, 30 R92), as plain types. -/

namespace Sys2Proof

/-- A line level: `true` is high, `false` is low (00 R14). -/
abbrev Level := Bool

/-- A raw sample, "an unsigned 8-bit integer" (10 R23). -/
abbrev RawSample := BitVec 8

/-- A signed Q15.16 word: the integer `q` stands for `q / 65536` degrees Celsius (30 R95). -/
abbrev Q1516 := BitVec 32

/-- "an enum of exactly two values `{0, 1}`" (00 R6, 10 R22). -/
inductive Channel where
  | ch0
  | ch1
deriving DecidableEq, Repr, Inhabited

/-- All logical pins of 30 R84. -/
inductive Pin where
  | clk
  | din
  | dout
  | cs
  | buz
  | btnArm
  | btnDisarm
deriving DecidableEq, Repr, Inhabited

/-- The pins `CTRL` drives (20 R61); the only operands of `SET_LINE` (40 R111). -/
inductive OutPin where
  | clk
  | din
  | cs
  | buz
deriving DecidableEq, Repr, Inhabited

/-- The pin `CTRL` samples (20 R61); the only operand of `READ_LINE` (40 R112). -/
inductive InPin where
  | dout
deriving DecidableEq, Repr, Inhabited

/-- A port operation, without the reserved words of 30 R86. -/
inductive PortOp where
  | set (p : OutPin) (l : Level)
  | read (p : InPin)
deriving DecidableEq, Repr, Inhabited

/-- What `PORT` answers (20 R62). The bit of `ok` is the level on `DOUT`; only `READ_LINE` looks at it. -/
inductive PortAnswer where
  | ok (dout : Level)
  | ioFault
deriving DecidableEq, Repr, Inhabited

/-- The level of a line as 10 R41 defines it. -/
inductive LineLevel where
  | undriven
  | driven (l : Level)
  | unknown
deriving DecidableEq, Repr, Inhabited

/-- AlarmState (30 R92). -/
inductive AlarmState where
  | disarmed
  | armed
deriving DecidableEq, Repr, Inhabited

/-- BuzzerOutput (30 R92). -/
inductive BuzzerOutput where
  | off
  | on
deriving DecidableEq, Repr, Inhabited

/-- The light class (30 R92). -/
inductive LightClass where
  | dark
  | light
deriving DecidableEq, Repr, Inhabited

/-- `POT_DIRECTION` (42 R150). -/
inductive PotDirection where
  | increasing
  | decreasing
deriving DecidableEq, Repr, Inhabited

/-- The sequencer phases of 10 R30; the codes 9 to 15 are reserved, "never reached", and are no values here. -/
inductive Phase where
  | idle
  | readT
  | readA
  | eval
  | drive
  | publish
  | shutdown
  | stopped
  | faulted
deriving DecidableEq, Repr, Inhabited

/-- The three faults of 60 R220. -/
inductive FaultCode where
  | ioFault
  | conversionFault
  | invalidChannel
deriving DecidableEq, Repr, Inhabited

/-- The result of `CONV_TEMP` (42 R148): a temperature, or `ConversionFault`. -/
inductive TempResult where
  | ok (q : Q1516)
  | conversionFault
deriving DecidableEq, Repr, Inhabited

/-- The four formats whose words select an operation (30 R80, R96). -/
inductive Format where
  | pop
  | aframe
  | cmd
  | phase
deriving DecidableEq, Repr, Inhabited

/-- Why a word is no operation. -/
inductive DecodeError where
  /-- the word has more bits than its format (30 R80) -/
  | tooWide
  /-- a reserved `POP` word (30 R86) -/
  | reservedPop
  /-- an `AFRAME` with `START` or `SGL` at 0 (30 R94) -/
  | reservedFrame
  /-- `PHASE` 7 or 8: a terminal phase, which has no operation (45 R203, 60 R230) -/
  | terminalPhase
  /-- `PHASE` 9 to 15, reserved (10 R30) -/
  | reservedPhase
deriving DecidableEq, Repr, Inhabited

/-- One move of the environment or of `CTRL` (00 R11): which agent takes the next step. -/
inductive Event where
  /-- `CTRL` takes a step, if one is enabled without `TIMER` -/
  | ctrl
  /-- `TIMER` allows a cycle to start (45 R191) -/
  | tick
  /-- `CMD` presents a 2-bit command word (30 R87) -/
  | cmd (w : BitVec 2)
  /-- `VIEW` reads all of `SNAP` (20 R66) -/
  | viewSnap
  /-- `VIEW` reads all of `STATUS` (20 R66) -/
  | viewStatus
  /-- reset (70 R260) -/
  | reset
deriving DecidableEq, Repr, Inhabited

/-- The outcome of a port operation as a trace shows it (30 R85): a bare word, `=b`, or `!`. -/
inductive TraceOutcome where
  | ok
  | okBit (b : Level)
  | ioFault
deriving DecidableEq, Repr, Inhabited

/-- One entry of the port trace: the `POP` word and its outcome (30 R85). -/
structure TraceEntry where
  word : BitVec 5
  outcome : TraceOutcome
deriving DecidableEq, Repr, Inhabited

/-- The `FAULT_REPORT(code, FOP, FPHASE, FUPC)` event of 60 R232. -/
structure FaultReport where
  code : FaultCode
  fop : BitVec 5
  fphase : BitVec 4
  fupc : BitVec 6
deriving DecidableEq, Repr, Inhabited

/-- What an operation called on its own delivered to its caller: the bit of `READ_LINE` (40 R112), the sample of
`ADC_READ` (41 R120), the value of a conversion (42 R148, R153, R155). -/
inductive OpResult where
  | none
  | bit (b : Level)
  | sample (raw : RawSample)
  | temp (r : TempResult)
  | thresh (q : Q1516)
  | light (c : LightClass)
deriving DecidableEq, Repr, Inhabited

end Sys2Proof
end

