-- ==== Sys2Proof/Config.lean ====
section
/-! DEFINITION. The configuration of 00 R7 and R8, constant from reset to reset (10 R38), and the free values that stand
for the environment's choices. -/

namespace Sys2Proof

/-- The calibration parameters of 00 R7, over a field `K`. `Calibration ℝ` is the spec's: "All are mathematical real
numbers unless a type is given". `Calibration ℚ` has the same formulas and can be evaluated. "the hardware never computes
with them at run time" (00 R7, R9): they say what the tables must contain and which configurations are accepted, and are
an argument of the construction, no part of `State` (log 5). -/
structure Calibration (K : Type) where
  r0 : K
  t0 : K
  b : K
  rFixed : K
  vref : K
  fs : Int
  kelvin : K
  potMin : Int
  potMax : Int
  threshMin : K
  threshMax : K
  potDirection : PotDirection
  periodMs : K
deriving DecidableEq, Repr

/-- One entry of `TEMP_ROM`: the valid bit and the Q15.16 datum, 33 bits (42 R147). -/
structure TempEntry where
  valid : Bool
  q : Q1516
deriving DecidableEq, Repr, Inhabited

/-- The part of `CONFIG` (10 R38) that the machine reads: the two ROMs, the run-time parameters `LIGHT_CUT` and
`TEMP_CHANNEL`, and the three open reset parameters. -/
structure Config where
  tempRom : List TempEntry
  threshRom : List Q1516
  lightCut : Nat
  tempChannel : Channel
  alarmReset : AlarmState
  threshReset : Q1516
  lightReset : LightClass
deriving DecidableEq, Repr

/-- The answer `PORT` gives to the `n`-th port operation that no listed answer covers: `draw r in {Ok, IoFault}`, and for
a read `draw r in {Ok(0), Ok(1), IoFault}` (20 R62, R68). A free value: nothing constrains it (log 1). -/
opaque Config.freeAnswer : Nat → PortAnswer

/-- The agent that takes the `n`-th step that no listed event covers: "Any agent with an enabled step may take it next;
the spec fixes no relative speed" (00 R11). A free value (log 1). -/
opaque Config.freeEvent : Nat → Event

end Sys2Proof
end

