-- ==== Sys2Proof/Machine/Calibration.lean ====
section
/-! DEFINITION. What the tables must contain (42 R141 to R152) and which configurations are accepted (42 R146, 70 R264).
None of this is computed at run time (00 R9). A definition over an arbitrary ordered field `K` with a floor is the spec's
at `K = ℝ`; at `K = ℚ` the same definition can be evaluated. -/

namespace Sys2Proof

section fixedPoint
variable {K : Type} [Field K] [LinearOrder K] [FloorRing K]

/-- `round_half_even` of 42 R145: the nearest integer, the even one at a tie. -/
def roundHalfEven (y : K) : Int :=
  if y - ⌊y⌋ < 1 / 2 then ⌊y⌋
  else if 1 / 2 < y - ⌊y⌋ then ⌊y⌋ + 1
  else if ⌊y⌋ % 2 = 0 then ⌊y⌋ else ⌊y⌋ + 1

/-- `Q(x)` of 42 R145 as an integer. -/
def qInt (x : K) : Int := roundHalfEven (x * 65536)

/-- "`Q` is defined only when the result lies in `[−2^31, 2^31 − 1]`" (42 R145). -/
def qDefined (x : K) : Bool := decide (-(2 ^ 31) ≤ qInt x) && decide (qInt x ≤ 2 ^ 31 - 1)

/-- `Q(x)` as a 32-bit two's-complement word (42 R145). -/
def qWord (x : K) : Q1516 := BitVec.ofInt 32 (qInt x)

end fixedPoint

/-- `Q` on a real: `q` is the integer nearest to `x × 65536`, the even one at a tie (42 R145). -/
def IsQ (x : ℝ) (q : Int) : Prop :=
  |x * 65536 - q| ≤ 1 / 2 ∧ (|x * 65536 - q| = 1 / 2 → Even q)

/-- `Q` is defined at a real: its nearest integer, the even one at a tie, "lies in `[−2^31, 2^31 − 1]`" (42 R145). -/
def QDefined (x : ℝ) : Prop := ∃ q : Int, IsQ x q ∧ -(2 ^ 31) ≤ q ∧ q ≤ 2 ^ 31 - 1

section thresholds
variable {K : Type} [Field K] [LinearOrder K] [FloorRing K]

/-- `span` of 42 R149. -/
def threshSpan (c : Calibration K) : K := (c.threshMax - c.threshMin) / ((c.potMax - c.potMin : Int) : K)

/-- The straight line of 42 R149, before clamping. -/
def threshLin (c : Calibration K) (raw : Int) : K :=
  match c.potDirection with
  | .increasing => c.threshMin + ((raw - c.potMin : Int) : K) * threshSpan c
  | .decreasing => c.threshMax - ((raw - c.potMin : Int) : K) * threshSpan c

/-- `thresh_real` of 42 R149: the line clamped to `[THRESH_MIN, THRESH_MAX]`. -/
def threshReal (c : Calibration K) (raw : Int) : K :=
  min (max (threshLin c raw) c.threshMin) c.threshMax

/-- `THRESH_ROM` as 42 R152 builds it. -/
def buildThreshRom (c : Calibration K) : List Q1516 :=
  (List.range 256).map fun raw => qWord (threshReal c raw)

end thresholds

/-- The resistance and the reciprocal temperature of 42 R141 for a raw code. -/
def IsBeta (c : Calibration ℝ) (raw : Nat) (r invT : ℝ) : Prop :=
  ∃ v : ℝ, v = c.vref * raw / c.fs ∧ r = c.rFixed * v / (c.vref - v) ∧
    invT = 1 / (c.t0 + c.kelvin) + 1 / c.b * Real.log (r / c.r0)

/-- `celsius_real(raw)` of 42 R141, with the last step as 90 C2 resolves it. -/
def IsCelsius (c : Calibration ℝ) (raw : Nat) (x : ℝ) : Prop :=
  ∃ r invT t : ℝ, IsBeta c raw r invT ∧ t = 1 / invT ∧ x = t - c.kelvin

/-- `celsius_real(raw)` is invalid (42 R143): the code saturates, or `R ≤ 0`, or `1/T ≤ 0`. -/
def TempInvalid (c : Calibration ℝ) (raw : Nat) : Prop :=
  (raw : Int) = c.fs ∨ ∃ r invT : ℝ, IsBeta c raw r invT ∧ (r ≤ 0 ∨ invT ≤ 0)

/-- "`Q(celsius_real(raw))` is defined for every `raw` at which `celsius_real` is valid" (42 R146). -/
def TempQDefined (c : Calibration ℝ) : Prop :=
  ∀ raw : Nat, raw < 256 → ¬ TempInvalid c raw → ∀ x : ℝ, IsCelsius c raw x → QDefined x

/-- The named premise of 42 R147: the `TEMP_ROM` of a configuration is the table built from a calibration. It also
says, through the 32-bit datum, that `Q` is defined at every valid code (42 R146). -/
def TempRomFollowsBeta (c : Config) (cal : Calibration ℝ) : Prop :=
  c.tempRom.length = 256 ∧
  ∀ raw : Nat, raw < 256 → ∀ e : TempEntry, c.tempRom[raw]? = some e →
    (TempInvalid cal raw → e = ⟨false, 0⟩) ∧
    (¬ TempInvalid cal raw → e.valid = true ∧ ∃ x : ℝ, IsCelsius cal raw x ∧ IsQ x e.q.toInt)

section acceptance
variable {K : Type} [Field K] [LinearOrder K] [FloorRing K]

/-- The named premise of 42 R152: the `THRESH_ROM` of a configuration is the table built from a calibration. -/
def threshRomFollowsMap (c : Config) (cal : Calibration K) : Bool := decide (c.threshRom = buildThreshRom cal)

/-- The constraints of the table of 00 R7, and `Q(THRESH_MIN)` and `Q(THRESH_MAX)` defined (42 R146). -/
def Calibration.wellFormed (c : Calibration K) : Bool :=
  decide (0 < c.r0) && decide (0 < c.t0 + c.kelvin) && decide (c.b ≠ 0) && decide (0 < c.rFixed) &&
  decide (0 < c.vref) && decide (c.potMin ≠ c.potMax) && decide (c.threshMin ≤ c.threshMax) &&
  decide (0 < c.periodMs) && qDefined c.threshMin && qDefined c.threshMax

/-- `Q(THRESH_MIN) ≤ q ≤ Q(THRESH_MAX)` as signed integers (10 R25). -/
def inThreshRange (c : Calibration K) (q : Q1516) : Bool :=
  decide (qInt c.threshMin ≤ q.toInt) && decide (q.toInt ≤ qInt c.threshMax)

/-- The constraints of 42 R146, 00 R7, 00 R8 and 70 R264 that speak of no logarithm: the calibration's constraints,
tables of 256 entries, thresholds within the clamp range, `LIGHT_CUT` in `[0, 256]`. -/
def Config.wellFormed (c : Config) (cal : Calibration K) : Bool :=
  cal.wellFormed && decide (c.tempRom.length = 256) && decide (c.threshRom.length = 256) &&
  c.threshRom.all (inThreshRange cal) && inThreshRange cal c.threshReset && decide (c.lightCut ≤ 256)

end acceptance

/-- "The configuration is accepted only if" (42 R146): the constraints above, over the reals, and `Q` defined at every
valid temperature. That the tables are the ones built from the calibration is the platform's obligation (70 R264), here
the premises `TempRomFollowsBeta` and `threshRomFollowsMap`. -/
def Config.Accepted (c : Config) (cal : Calibration ℝ) : Prop := c.wellFormed cal = true ∧ TempQDefined cal

end Sys2Proof
end

