-- ==== Sys2Proof/Machine/Codes.lean ====
section
/-! DEFINITION. The numbers the spec gives its names (10 R30, 10 R37, 30 R84, 30 R92, 60 R220) and the bit layouts of
`POP`, `STATUS` and `SNAP` (30 R85, 10 R37, 10 R36). -/

namespace Sys2Proof

/-- The pin identifier of 30 R84; 7 is reserved, "no line". -/
def pinId : Pin → BitVec 3
  | .clk => 0
  | .din => 1
  | .dout => 2
  | .cs => 3
  | .buz => 4
  | .btnArm => 5
  | .btnDisarm => 6

/-- The driven pin as a pin. -/
def outPin : OutPin → Pin
  | .clk => .clk
  | .din => .din
  | .cs => .cs
  | .buz => .buz

/-- The sampled pin as a pin. -/
def inPin : InPin → Pin
  | .dout => .dout

/-- The pin `SET_LINE` may name by this identifier, if `CTRL` drives one (30 R85, R86). -/
def outPinOfId (id : BitVec 3) : Option OutPin :=
  if id = 0 then some .clk else if id = 1 then some .din
  else if id = 3 then some .cs else if id = 4 then some .buz else none

/-- The pin `READ_LINE` may name by this identifier (30 R85, R86). -/
def inPinOfId (id : BitVec 3) : Option InPin :=
  if id = 2 then some .dout else none

/-- The `POP` word of 30 R85: bit 4 the kind, bits 3:1 the pin, bit 0 the level (0 for `READ_LINE`). -/
def popWord : PortOp → BitVec 5
  | .set p l => (BitVec.ofBool false ++ pinId (outPin p)) ++ BitVec.ofBool l
  | .read p => (BitVec.ofBool true ++ pinId (inPin p)) ++ BitVec.ofBool false

/-- The `PHASE` code of 10 R30. -/
def phaseCode : Phase → BitVec 4
  | .idle => 0
  | .readT => 1
  | .readA => 2
  | .eval => 3
  | .drive => 4
  | .publish => 5
  | .shutdown => 6
  | .stopped => 7
  | .faulted => 8

/-- The largest `UPC` of a phase (10 R30). -/
def maxUpc : Phase → Nat
  | .readT => 36
  | .readA => 36
  | .shutdown => 3
  | .idle => 0
  | .eval => 0
  | .drive => 0
  | .publish => 0
  | .stopped => 0
  | .faulted => 0

/-- The code of a fault (60 R220). -/
def faultNumber : FaultCode → BitVec 2
  | .ioFault => 1
  | .conversionFault => 2
  | .invalidChannel => 3

/-- The `STATUS.RUN` value of a phase (10 R37): 0 `RUNNING`, 1 `STOPPED`, 2 `FAULTED`. -/
def runCode : Phase → BitVec 2
  | .stopped => 1
  | .faulted => 2
  | .idle => 0
  | .readT => 0
  | .readA => 0
  | .eval => 0
  | .drive => 0
  | .publish => 0
  | .shutdown => 0

/-- `CHSEL`, the channel as one bit (30 R81). -/
def channelBit : Channel → Bool
  | .ch0 => false
  | .ch1 => true

/-- The channel of a one-bit value. -/
def channelOfBit : Bool → Channel
  | false => .ch0
  | true => .ch1

/-- `1 − c` (45 R193, R194). -/
def otherChannel : Channel → Channel
  | .ch0 => .ch1
  | .ch1 => .ch0

/-- `Armed` is 1 (30 R92). -/
def alarmBit : AlarmState → Bool
  | .disarmed => false
  | .armed => true

/-- `On` is 1, and 1 is the level driven on `BUZ` (30 R92). -/
def buzzerBit : BuzzerOutput → Bool
  | .off => false
  | .on => true

/-- `Light` is 1 (30 R92). -/
def lightBit : LightClass → Bool
  | .dark => false
  | .light => true

/-- `POT_DIRECTION`: `Increasing` is 0, `Decreasing` is 1 (30 R92). -/
def potDirectionBit : PotDirection → Bool
  | .increasing => false
  | .decreasing => true

/-- `POT_DIRECTION` of a one-bit value (30 R92). -/
def potDirectionOfBit : Bool → PotDirection
  | false => .increasing
  | true => .decreasing

/-- The 19-bit `STATUS` word of 10 R37, from its fields. -/
def packStatus (run fcode : BitVec 2) (fop : BitVec 5) (fphase : BitVec 4) (fupc : BitVec 6) : BitVec 19 :=
  fupc ++ (fphase ++ (fop ++ (fcode ++ run)))

/-- `STATUS[1:0]` (10 R37). -/
def statusRun (w : BitVec 19) : BitVec 2 := w.extractLsb' 0 2
/-- `STATUS[3:2]` (10 R37). -/
def statusFcode (w : BitVec 19) : BitVec 2 := w.extractLsb' 2 2
/-- `STATUS[8:4]` (10 R37). -/
def statusFop (w : BitVec 19) : BitVec 5 := w.extractLsb' 4 5
/-- `STATUS[12:9]` (10 R37). -/
def statusFphase (w : BitVec 19) : BitVec 4 := w.extractLsb' 9 4
/-- `STATUS[18:13]` (10 R37). -/
def statusFupc (w : BitVec 19) : BitVec 6 := w.extractLsb' 13 6

/-- `STATUS` with `RUN` rewritten and every other field kept. -/
def statusWithRun (w : BitVec 19) (run : BitVec 2) : BitVec 19 :=
  packStatus run (statusFcode w) (statusFop w) (statusFphase w) (statusFupc w)

/-- The 68-bit `SNAP` word of 10 R36, from its fields. -/
def packSnap (light buzzerOn alarmState tempValid : Bool) (temperature threshold : Q1516) : BitVec 68 :=
  BitVec.ofBool light ++ (BitVec.ofBool buzzerOn ++ (BitVec.ofBool alarmState ++
    (BitVec.ofBool tempValid ++ (temperature ++ threshold))))

/-- `SNAP[31:0]` (10 R36). -/
def snapThreshold (w : BitVec 68) : Q1516 := w.extractLsb' 0 32
/-- `SNAP[63:32]` (10 R36). -/
def snapTemperature (w : BitVec 68) : Q1516 := w.extractLsb' 32 32
/-- `SNAP[64]` (10 R36). -/
def snapTempValid (w : BitVec 68) : Bool := w.getLsbD 64
/-- `SNAP[65]` (10 R36). -/
def snapAlarmState (w : BitVec 68) : Bool := w.getLsbD 65
/-- `SNAP[66]` (10 R36). -/
def snapBuzzerOn (w : BitVec 68) : Bool := w.getLsbD 66
/-- `SNAP[67]` (10 R36). -/
def snapLight (w : BitVec 68) : Bool := w.getLsbD 67

/-- The trace outcome of a port operation under an answer: a read shows its bit (30 R85). -/
def traceOutcome : PortOp → PortAnswer → TraceOutcome
  | .set _ _, .ok _ => .ok
  | .read _, .ok b => .okBit b
  | .set _ _, .ioFault => .ioFault
  | .read _, .ioFault => .ioFault

/-- The trace entry of a port operation under an answer (30 R85). -/
def traceEntry (op : PortOp) (a : PortAnswer) : TraceEntry := ⟨popWord op, traceOutcome op a⟩

end Sys2Proof
end

