-- ==== Sys2Proof/Machine/Operands.lean ====
section
/-! DEFINITION. The operand forms: the channel operand of `ADC_READ` (41 R121) and the three table and cut look-ups of
`EVAL` (42 R148, R153, R155), with the accumulator's shift (30 R93). -/

namespace Sys2Proof

/-- The channel operand at the driver's call boundary: "The value is not reduced modulo 2, not clamped, not masked"
(41 R121). -/
def channelOperand (ch : Nat) : Option Channel :=
  match ch with
  | 0 => some .ch0
  | 1 => some .ch1
  | _ => none

/-- `(ACC << 1)[7:0] | zext_8(bit)` (30 R93, 41 R126). -/
def shiftInBit (acc : BitVec 8) (bit : Bool) : BitVec 8 :=
  (acc <<< 1) ||| BitVec.zeroExtend 8 (BitVec.ofBool bit)

/-- `MemRead(ROM:TEMP_ROM, raw)` (00 R13); the index is always in range in a well-formed configuration (20 R71). -/
def tempRomAt (c : Config) (raw : RawSample) : TempEntry := c.tempRom.getD raw.toNat ⟨false, 0⟩

/-- `MemRead(ROM:THRESH_ROM, raw)` (00 R13). -/
def threshRomAt (c : Config) (raw : RawSample) : Q1516 := c.threshRom.getD raw.toNat 0

/-- `CONV_TEMP raw` (42 R148): the datum if the entry is valid, else `ConversionFault`. -/
def convTemp (c : Config) (raw : RawSample) : TempResult :=
  if (tempRomAt c raw).valid then .ok (tempRomAt c raw).q else .conversionFault

/-- `CONV_THRESH raw` (42 R153). -/
def convThresh (c : Config) (raw : RawSample) : Q1516 := threshRomAt c raw

/-- `CONV_LIGHT raw` (42 R155): `Light` below the cut, unsigned; the cut itself is `Dark`. -/
def convLight (c : Config) (raw : RawSample) : LightClass :=
  if raw.toNat < c.lightCut then .light else .dark

end Sys2Proof
end

