-- ==== Sys2Proof/Machine/Flags.lean ====
section
/-! DEFINITION. The one-bit conditions of 10 R33 that are computed: the transient `cf` of `EVAL`, and the comparator of
`DECIDE` (44 R184). There are no arithmetic flags. -/

namespace Sys2Proof

/-- `cf`, the conversion fault of this cycle (10 R33, 60 R222). -/
def conversionFaulted : TempResult → Bool
  | .ok _ => false
  | .conversionFault => true

/-- `a >s b`, the signed strict comparison (00 R13, 30 R95). -/
def greaterSigned (a b : Q1516) : Bool := BitVec.slt b a

/-- `DECIDE` (44 R184): `On` exactly when armed, a temperature is valid, and it is strictly greater. -/
def decideBuzzer (a : AlarmState) (tempValid : Bool) (temp thresh : Q1516) : BuzzerOutput :=
  if alarmBit a && tempValid && greaterSigned temp thresh then .on else .off

end Sys2Proof
end

