-- ==== Sys2Proof/Machine/Tables.lean ====
section
/-! DEFINITION. The reference configuration `REFCFG` (00 R10): the parameters of 00 R7 and the two tables of 43 R170 and
R171, copied from the spec's hexadecimal columns. -/

namespace Sys2Proof

/-- `TEMP_ROM` data of 43 R170, codes 0 to 31. -/
def refTempData0 : List Q1516 := [
  0x00000000, 0x00EF1A6A, 0x00C4A242, 0x00AED202, 0x00A07A2C, 0x0095ED8B, 0x008DA64A, 0x0086DF47,
  0x008127B7, 0x007C3958, 0x0077E59A, 0x00740C21, 0x00709593, 0x006D708F, 0x006A8FD5, 0x0067E90E,
  0x00657407, 0x00632A23, 0x006105FA, 0x005F0314, 0x005D1DB2, 0x005B52AE, 0x00599F57, 0x0058015E,
  0x005676C5, 0x0054FDD0, 0x005394FB, 0x00523AF0, 0x0050EE80, 0x004FAEA0, 0x004E7A60, 0x004D50EA]

/-- `TEMP_ROM` data of 43 R170, codes 32 to 63. -/
def refTempData1 : List Q1516 := [
  0x004C317D, 0x004B1B6B, 0x004A0E18, 0x004908F3, 0x00480B7C, 0x0047153C, 0x004625C6, 0x00453CB5,
  0x004459B0, 0x00437C61, 0x0042A479, 0x0041D1B2, 0x004103C8, 0x00403A7C, 0x003F7596, 0x003EB4DF,
  0x003DF824, 0x003D3F37, 0x003C89EC, 0x003BD81A, 0x003B2999, 0x003A7E45, 0x0039D5FC, 0x0039309E,
  0x00388E0B, 0x0037EE29, 0x003750DA, 0x0036B606, 0x00361D93, 0x0035876C, 0x0034F379, 0x003461A7]

/-- `TEMP_ROM` data of 43 R170, codes 64 to 95. -/
def refTempData2 : List Q1516 := [
  0x0033D1E0, 0x00334413, 0x0032B82D, 0x00322E1E, 0x0031A5D4, 0x00311F40, 0x00309A53, 0x003016FF,
  0x002F9537, 0x002F14EC, 0x002E9613, 0x002E18A0, 0x002D9C87, 0x002D21BC, 0x002CA836, 0x002C2FEA,
  0x002BB8CE, 0x002B42D8, 0x002ACE00, 0x002A5A3D, 0x0029E785, 0x002975D2, 0x0029051A, 0x00289557,
  0x00282681, 0x0027B890, 0x00274B7F, 0x0026DF45, 0x002673DC, 0x0026093F, 0x00259F67, 0x0025364F]

/-- `TEMP_ROM` data of 43 R170, codes 96 to 127. -/
def refTempData3 : List Q1516 := [
  0x0024CDEF, 0x00246643, 0x0023FF46, 0x002398F1, 0x00233340, 0x0022CE2E, 0x002269B6, 0x002205D3,
  0x0021A281, 0x00213FBA, 0x0020DD7A, 0x00207BBE, 0x00201A81, 0x001FB9BE, 0x001F5971, 0x001EF998,
  0x001E9A2D, 0x001E3B2D, 0x001DDC93, 0x001D7E5E, 0x001D2088, 0x001CC30E, 0x001C65EE, 0x001C0922,
  0x001BACA8, 0x001B507D, 0x001AF49D, 0x001A9906, 0x001A3DB2, 0x0019E2A1, 0x001987CE, 0x00192D36]

/-- `TEMP_ROM` data of 43 R170, codes 128 to 159. -/
def refTempData4 : List Q1516 := [
  0x0018D2D7, 0x001878AD, 0x00181EB5, 0x0017C4ED, 0x00176B51, 0x001711DE, 0x0016B892, 0x00165F69,
  0x00160660, 0x0015AD76, 0x001554A6, 0x0014FBEE, 0x0014A34B, 0x00144ABB, 0x0013F23A, 0x001399C5,
  0x0013415A, 0x0012E8F6, 0x00129095, 0x00123836, 0x0011DFD4, 0x0011876E, 0x00112EFF, 0x0010D686,
  0x00107E00, 0x00102568, 0x000FCCBC, 0x000F73FA, 0x000F1B1E, 0x000EC224, 0x000E690A, 0x000E0FCD]

/-- `TEMP_ROM` data of 43 R170, codes 160 to 191. -/
def refTempData5 : List Q1516 := [
  0x000DB668, 0x000D5CDA, 0x000D031E, 0x000CA931, 0x000C4F10, 0x000BF4B6, 0x000B9A22, 0x000B3F4D,
  0x000AE436, 0x000A88D9, 0x000A2D30, 0x0009D139, 0x000974EE, 0x0009184D, 0x0008BB50, 0x00085DF4,
  0x00080033, 0x0007A209, 0x00074371, 0x0006E467, 0x000684E4, 0x000624E5, 0x0005C463, 0x00056359,
  0x000501C1, 0x00049F95, 0x00043CD0, 0x0003D969, 0x0003755C, 0x000310A0, 0x0002AB30, 0x00024502]

/-- `TEMP_ROM` data of 43 R170, codes 192 to 223. -/
def refTempData6 : List Q1516 := [
  0x0001DE10, 0x00017652, 0x00010DBF, 0x0000A44E, 0x000039F6, 0xFFFFCEAE, 0xFFFF626B, 0xFFFEF523,
  0xFFFE86CB, 0xFFFE1757, 0xFFFDA6BB, 0xFFFD34EB, 0xFFFCC1D8, 0xFFFC4D75, 0xFFFBD7B2, 0xFFFB6080,
  0xFFFAE7CE, 0xFFFA6D89, 0xFFF9F19F, 0xFFF973FC, 0xFFF8F48B, 0xFFF87334, 0xFFF7EFDF, 0xFFF76A72,
  0xFFF6E2D0, 0xFFF658DD, 0xFFF5CC77, 0xFFF53D7C, 0xFFF4ABC5, 0xFFF4172B, 0xFFF37F81, 0xFFF2E496]

/-- `TEMP_ROM` data of 43 R170, codes 224 to 255. -/
def refTempData7 : List Q1516 := [
  0xFFF24636, 0xFFF1A428, 0xFFF0FE2D, 0xFFF053FF, 0xFFEFA551, 0xFFEEF1CF, 0xFFEE3919, 0xFFED7AC7,
  0xFFECB662, 0xFFEBEB64, 0xFFEB1935, 0xFFEA3F29, 0xFFE95C78, 0xFFE8703E, 0xFFE7796F, 0xFFE676D1,
  0xFFE566F1, 0xFFE44810, 0xFFE3180F, 0xFFE1D456, 0xFFE079A2, 0xFFDF03CC, 0xFFDD6D6A, 0xFFDBAF3D,
  0xFFD9BF39, 0xFFD78EDC, 0xFFD50802, 0xFFD2063E, 0xFFCE46D1, 0xFFC93831, 0xFFC11DC8, 0x00000000]

/-- The valid column of 43 R170: codes 0 and 255 are invalid. -/
def refTempValid : List Bool := false :: (List.replicate 254 true ++ [false])

/-- `TEMP_ROM` for `REFCFG` (43 R170). -/
def refTempRom : List TempEntry :=
  List.zipWith TempEntry.mk refTempValid
    (refTempData0 ++ refTempData1 ++ refTempData2 ++ refTempData3 ++ refTempData4 ++ refTempData5 ++ refTempData6 ++ refTempData7)

/-- `THRESH_ROM` data of 43 R171 (`Increasing`), codes 0 to 31. -/
def refThreshData0 : List Q1516 := [
  0xFFCE0000, 0xFFCE6464, 0xFFCEC8C9, 0xFFCF2D2D, 0xFFCF9192, 0xFFCFF5F6, 0xFFD05A5A, 0xFFD0BEBF,
  0xFFD12323, 0xFFD18788, 0xFFD1EBEC, 0xFFD25050, 0xFFD2B4B5, 0xFFD31919, 0xFFD37D7D, 0xFFD3E1E2,
  0xFFD44646, 0xFFD4AAAB, 0xFFD50F0F, 0xFFD57373, 0xFFD5D7D8, 0xFFD63C3C, 0xFFD6A0A1, 0xFFD70505,
  0xFFD76969, 0xFFD7CDCE, 0xFFD83232, 0xFFD89697, 0xFFD8FAFB, 0xFFD95F5F, 0xFFD9C3C4, 0xFFDA2828]

/-- `THRESH_ROM` data of 43 R171 (`Increasing`), codes 32 to 63. -/
def refThreshData1 : List Q1516 := [
  0xFFDA8C8D, 0xFFDAF0F1, 0xFFDB5555, 0xFFDBB9BA, 0xFFDC1E1E, 0xFFDC8283, 0xFFDCE6E7, 0xFFDD4B4B,
  0xFFDDAFB0, 0xFFDE1414, 0xFFDE7878, 0xFFDEDCDD, 0xFFDF4141, 0xFFDFA5A6, 0xFFE00A0A, 0xFFE06E6E,
  0xFFE0D2D3, 0xFFE13737, 0xFFE19B9C, 0xFFE20000, 0xFFE26464, 0xFFE2C8C9, 0xFFE32D2D, 0xFFE39192,
  0xFFE3F5F6, 0xFFE45A5A, 0xFFE4BEBF, 0xFFE52323, 0xFFE58788, 0xFFE5EBEC, 0xFFE65050, 0xFFE6B4B5]

/-- `THRESH_ROM` data of 43 R171 (`Increasing`), codes 64 to 95. -/
def refThreshData2 : List Q1516 := [
  0xFFE71919, 0xFFE77D7D, 0xFFE7E1E2, 0xFFE84646, 0xFFE8AAAB, 0xFFE90F0F, 0xFFE97373, 0xFFE9D7D8,
  0xFFEA3C3C, 0xFFEAA0A1, 0xFFEB0505, 0xFFEB6969, 0xFFEBCDCE, 0xFFEC3232, 0xFFEC9697, 0xFFECFAFB,
  0xFFED5F5F, 0xFFEDC3C4, 0xFFEE2828, 0xFFEE8C8D, 0xFFEEF0F1, 0xFFEF5555, 0xFFEFB9BA, 0xFFF01E1E,
  0xFFF08283, 0xFFF0E6E7, 0xFFF14B4B, 0xFFF1AFB0, 0xFFF21414, 0xFFF27878, 0xFFF2DCDD, 0xFFF34141]

/-- `THRESH_ROM` data of 43 R171 (`Increasing`), codes 96 to 127. -/
def refThreshData3 : List Q1516 := [
  0xFFF3A5A6, 0xFFF40A0A, 0xFFF46E6E, 0xFFF4D2D3, 0xFFF53737, 0xFFF59B9C, 0xFFF60000, 0xFFF66464,
  0xFFF6C8C9, 0xFFF72D2D, 0xFFF79192, 0xFFF7F5F6, 0xFFF85A5A, 0xFFF8BEBF, 0xFFF92323, 0xFFF98788,
  0xFFF9EBEC, 0xFFFA5050, 0xFFFAB4B5, 0xFFFB1919, 0xFFFB7D7D, 0xFFFBE1E2, 0xFFFC4646, 0xFFFCAAAB,
  0xFFFD0F0F, 0xFFFD7373, 0xFFFDD7D8, 0xFFFE3C3C, 0xFFFEA0A1, 0xFFFF0505, 0xFFFF6969, 0xFFFFCDCE]

/-- `THRESH_ROM` data of 43 R171 (`Increasing`), codes 128 to 159. -/
def refThreshData4 : List Q1516 := [
  0x00003232, 0x00009697, 0x0000FAFB, 0x00015F5F, 0x0001C3C4, 0x00022828, 0x00028C8D, 0x0002F0F1,
  0x00035555, 0x0003B9BA, 0x00041E1E, 0x00048283, 0x0004E6E7, 0x00054B4B, 0x0005AFB0, 0x00061414,
  0x00067878, 0x0006DCDD, 0x00074141, 0x0007A5A6, 0x00080A0A, 0x00086E6E, 0x0008D2D3, 0x00093737,
  0x00099B9C, 0x000A0000, 0x000A6464, 0x000AC8C9, 0x000B2D2D, 0x000B9192, 0x000BF5F6, 0x000C5A5A]

/-- `THRESH_ROM` data of 43 R171 (`Increasing`), codes 160 to 191. -/
def refThreshData5 : List Q1516 := [
  0x000CBEBF, 0x000D2323, 0x000D8788, 0x000DEBEC, 0x000E5050, 0x000EB4B5, 0x000F1919, 0x000F7D7D,
  0x000FE1E2, 0x00104646, 0x0010AAAB, 0x00110F0F, 0x00117373, 0x0011D7D8, 0x00123C3C, 0x0012A0A1,
  0x00130505, 0x00136969, 0x0013CDCE, 0x00143232, 0x00149697, 0x0014FAFB, 0x00155F5F, 0x0015C3C4,
  0x00162828, 0x00168C8D, 0x0016F0F1, 0x00175555, 0x0017B9BA, 0x00181E1E, 0x00188283, 0x0018E6E7]

/-- `THRESH_ROM` data of 43 R171 (`Increasing`), codes 192 to 223. -/
def refThreshData6 : List Q1516 := [
  0x00194B4B, 0x0019AFB0, 0x001A1414, 0x001A7878, 0x001ADCDD, 0x001B4141, 0x001BA5A6, 0x001C0A0A,
  0x001C6E6E, 0x001CD2D3, 0x001D3737, 0x001D9B9C, 0x001E0000, 0x001E6464, 0x001EC8C9, 0x001F2D2D,
  0x001F9192, 0x001FF5F6, 0x00205A5A, 0x0020BEBF, 0x00212323, 0x00218788, 0x0021EBEC, 0x00225050,
  0x0022B4B5, 0x00231919, 0x00237D7D, 0x0023E1E2, 0x00244646, 0x0024AAAB, 0x00250F0F, 0x00257373]

/-- `THRESH_ROM` data of 43 R171 (`Increasing`), codes 224 to 255. -/
def refThreshData7 : List Q1516 := [
  0x0025D7D8, 0x00263C3C, 0x0026A0A1, 0x00270505, 0x00276969, 0x0027CDCE, 0x00283232, 0x00289697,
  0x0028FAFB, 0x00295F5F, 0x0029C3C4, 0x002A2828, 0x002A8C8D, 0x002AF0F1, 0x002B5555, 0x002BB9BA,
  0x002C1E1E, 0x002C8283, 0x002CE6E7, 0x002D4B4B, 0x002DAFB0, 0x002E1414, 0x002E7878, 0x002EDCDD,
  0x002F4141, 0x002FA5A6, 0x00300A0A, 0x00306E6E, 0x0030D2D3, 0x00313737, 0x00319B9C, 0x00320000]

/-- `THRESH_ROM` for `REFCFG` (43 R171, column `Increasing`). -/
def refThreshRom : List Q1516 :=
  refThreshData0 ++ refThreshData1 ++ refThreshData2 ++ refThreshData3 ++ refThreshData4 ++ refThreshData5 ++ refThreshData6 ++ refThreshData7

/-- The reference values of 00 R7, in any field. -/
def refCalibration {K : Type} [Field K] : Calibration K where
  r0 := 10000
  t0 := 25
  b := 3950
  rFixed := 10000
  vref := 33 / 10
  fs := 255
  kelvin := 27315 / 100
  potMin := 0
  potMax := 255
  threshMin := -50
  threshMax := 50
  potDirection := .increasing
  periodMs := 200

/-- `REFCFG` (00 R10). The three open reset parameters have the values the test vectors use (00 R8): DESIGN CHOICE,
log 4. -/
def refcfg : Config where
  tempRom := refTempRom
  threshRom := refThreshRom
  lightCut := 128
  tempChannel := .ch0
  alarmReset := .disarmed
  threshReset := 0x00320000
  lightReset := .dark

end Sys2Proof
end

