-- ==== Sys2Proof/Machine/State.lean ====
section
/-! DEFINITION. The state of the machine as plain data: every register of 10 R20, the line levels of 10 R41, the
observations of 00 R16, and the environment's script. -/

namespace Sys2Proof.Machine

/-- Why a step stops with a fault. The faults of 60 R220 are NOT here: the spec describes their entry, so they are
next states. -/
inductive Fault where
  /-- Raised by `READ_T`, `READ_A` and `SHUTDOWN` at a `UPC` beyond the range of their phase, a position 10 R31 says is
  never reached. Safe: the spec gives no micro-step there (log 15). -/
  | noMicroStep
deriving DecidableEq, Repr

/-- Why a step or a construction is refused. -/
inductive Refusal where
  /-- Raised by `exec` for an operation without a meaning; no operation is left so. Safe. -/
  | notModelled (mnemonic : String)
  /-- Raised by `step` if the word it takes selects no operation; no state reaches it, since every phase that is not
  terminal and every command word has one (30 R87, R96). Safe. -/
  | undecodable (e : DecodeError)
  /-- Raised by `State.construct`: "A configuration that fails this is refused at construction" (42 R146). Safe. -/
  | illFormedConfig
deriving DecidableEq, Repr

/-- The levels of the lines `CTRL` drives (10 R41). -/
structure Lines where
  clk : LineLevel
  din : LineLevel
  cs : LineLevel
  buz : LineLevel
deriving DecidableEq, Repr

/-- The environment's script, the model's own (log 1): what is listed comes first, then the free values of `Config`, at
the place the counter says. -/
structure Env where
  events : List Event
  eventDraws : Nat
  answers : List PortAnswer
  answerDraws : Nat
deriving DecidableEq, Repr

/-- What the agent `VIEW` last read (20 R66), the model's own (log 17). -/
structure ViewReads where
  snap : Option (BitVec 68)
  status : Option (BitVec 19)
deriving DecidableEq, Repr

/-- The machine. `cfg` is what the machine reads of `CONFIG` (10 R38), which no step writes (log 3); the registers from `acc` to `snap` are the
table of 10 R20; `lines` is 10 R41; `trace` and `reports` are the observations of 00 R16; `view`, `result` and `env` are
the model's own. -/
structure State where
  cfg : Config
  acc : BitVec 8
  ch : Channel
  rawT : RawSample
  rawA : RawSample
  tempValid : Bool
  temp : Q1516
  thresh : Q1516
  light : LightClass
  alarmSeen : AlarmState
  buzz : BuzzerOutput
  phase : Phase
  upc : BitVec 6
  alarm : AlarmState
  stopReq : Bool
  status : BitVec 19
  snap : BitVec 68
  lines : Lines
  trace : List TraceEntry
  reports : List FaultReport
  view : ViewReads
  result : OpResult
  env : Env
deriving DecidableEq, Repr

/-- The machine right after reset under a configuration: the table of 10 R44, with the open parameters taken from the
configuration (70 R262), no port operation performed (70 R261), and nothing scripted. -/
def State.resetWith (c : Config) : State where
  cfg := c
  acc := 0
  ch := .ch0
  rawT := 0
  rawA := 0
  tempValid := false
  temp := 0
  thresh := c.threshReset
  light := c.lightReset
  alarmSeen := c.alarmReset
  buzz := .off
  phase := .idle
  upc := 0
  alarm := c.alarmReset
  stopReq := false
  status := 0
  snap := packSnap (lightBit c.lightReset) false (alarmBit c.alarmReset) false 0 c.threshReset
  lines := ⟨.undriven, .undriven, .undriven, .undriven⟩
  trace := []
  reports := []
  view := ⟨none, none⟩
  result := .none
  env := ⟨[], 0, [], 0⟩

/-- The machine right after reset, under `REFCFG` (00 R10). DESIGN CHOICE: the configuration and the open reset
parameters (logs 3, 4). -/
def State.reset : State := State.resetWith refcfg

end Sys2Proof.Machine
end

