-- ==== Sys2Proof/Machine/Ops.lean ====
section
/-! DEFINITION. The shared operations: the environment's script, the line levels, taking a fault (60 R225), a port
operation (40 R111, R112), the moves of the sequencer (10 R30, R31), and the port-operation sequences of 30 R98, 41 R123
and 45 R202. -/

namespace Sys2Proof.Machine

/-! ## The environment's script -/

/-- The answer to the `k`-th port operation from now: the listed one, else the free value (20 R62; log 1). -/
def State.answerAt (s : State) (k : Nat) : PortAnswer :=
  s.env.answers.getD k (Config.freeAnswer (s.env.answerDraws + k))

/-- The event of the `k`-th step from now: the listed one, else the free value (00 R11; log 1). -/
def State.eventAt (s : State) (k : Nat) : Event :=
  s.env.events.getD k (Config.freeEvent (s.env.eventDraws + k))

/-- The script after one answer has been used. -/
def Env.dropAnswer (e : Env) : Env :=
  { e with answers := e.answers.tail, answerDraws := e.answerDraws + 1 }

/-- The script after one event has been used. -/
def Env.dropEvent (e : Env) : Env :=
  { e with events := e.events.tail, eventDraws := e.eventDraws + 1 }

/-- The machine after the event of this step has been taken from the script. -/
def State.consumeEvent (s : State) : State := { s with env := s.env.dropEvent }

/-! ## Lines -/

/-- `LINE[p]` of a driven pin. -/
def Lines.get (l : Lines) : OutPin → LineLevel
  | .clk => l.clk
  | .din => l.din
  | .cs => l.cs
  | .buz => l.buz

/-- `LINE[p] <- v`. -/
def Lines.put (l : Lines) (p : OutPin) (v : LineLevel) : Lines :=
  match p with
  | .clk => { l with clk := v }
  | .din => { l with din := v }
  | .cs => { l with cs := v }
  | .buz => { l with buz := v }

/-- The lines after a port operation: a successful `SET_LINE` drives its line, a failed one leaves it unknown, a
`READ_LINE` changes none (10 R41, 40 R111, R112). -/
def Lines.after (l : Lines) (op : PortOp) (a : PortAnswer) : Lines :=
  match op, a with
  | .set p v, .ok _ => l.put p (.driven v)
  | .set p _, .ioFault => l.put p .unknown
  | .read _, _ => l

/-- `LINE[p]` for every pin of 30 R84: `DOUT` is not tracked (40 R112) and the buttons are never driven (20 R61). -/
def State.line (s : State) : Pin → LineLevel
  | .clk => s.lines.clk
  | .din => s.lines.din
  | .cs => s.lines.cs
  | .buz => s.lines.buz
  | .dout => .undriven
  | .btnArm => .undriven
  | .btnDisarm => .undriven

/-! ## Faults, terminal phases, construction -/

/-- Entry on a fatal fault (60 R225): the `STATUS` record, `FAULTED`, one report (60 R232); "Nothing else is
written". There is no return: only reset leaves `FAULTED` (60 R230). -/
def State.enterFault (s : State) (code : FaultCode) (fop : BitVec 5) : State :=
  { s with
    status := packStatus (runCode .faulted) (faultNumber code) fop (phaseCode s.phase) s.upc
    phase := .faulted
    upc := 0
    reports := s.reports ++ [⟨code, fop, phaseCode s.phase, s.upc⟩] }

/-- `STOPPED` or `FAULTED`: "`CTRL` has no enabled step" (45 R203, 60 R226). -/
def State.halted (s : State) : Bool :=
  match s.phase with
  | .stopped => true
  | .faulted => true
  | .idle => false
  | .readT => false
  | .readA => false
  | .eval => false
  | .drive => false
  | .publish => false
  | .shutdown => false

/-- A step of `CTRL`: nothing happens in a terminal phase (45 R203, 60 R226; log 10). -/
def State.ctrlStep (s : State) (f : State → Host.Outcome State Fault Refusal) : Host.Outcome State Fault Refusal :=
  if s.halted then .next s else f s

/-- Reset at run time (70 R260): the registers, the lines and the observations as after power-up under the same
`CONFIG`; the script and `VIEW`'s reads are not the block's (log 18). -/
def State.resetNow (s : State) : State :=
  { State.resetWith s.cfg with env := s.env, view := s.view }

/-- Construction (42 R146) from the calibration and the configuration "supplied at construction time" (00 R7, 70
R264): "A configuration that fails this is refused at construction; `CTRL` does not exist for it". Whether it is accepted
is decided outside the hardware, as its tables are computed there (00 R9, 42 R147): the decision is an argument (log 20).
The calibration leaves nothing in the machine but the tables built from it. -/
def State.construct (cal : Calibration ℝ) (c : Config) [Decidable (c.Accepted cal)] : Host.Outcome State Fault Refusal :=
  if c.Accepted cal then .next (State.resetWith c) else .refused .illFormedConfig

/-! ## Port operations -/

/-- The effect of a port operation's answer on the lines, the trace and the script, whatever the answer is. -/
def State.answered (s : State) (op : PortOp) (a : PortAnswer) : State :=
  { s with lines := s.lines.after op a, trace := s.trace ++ [traceEntry op a], env := s.env.dropAnswer }

/-- One port operation (40 R111, R112): `PORT` answers; on `Ok` the step goes on as `k` says, which is given the bit;
on `IoFault` it ends in the fault entry with the operation's `POP` word. -/
def State.portOp (s : State) (op : PortOp) (k : Level → State → State) : State :=
  match s.answerAt 0 with
  | .ok b => k b (s.answered op (.ok b))
  | .ioFault => (s.answered op .ioFault).enterFault .ioFault (popWord op)

/-! ## The sequencer's moves -/

/-- `(PHASE, UPC) <- (p, 0)`. -/
def State.goto (s : State) (p : Phase) : State := { s with phase := p, upc := 0 }

/-- `UPC <- UPC + 1`. -/
def State.nextMicro (s : State) : State := { s with upc := s.upc + 1 }

/-- `(PHASE, UPC) <- (STOPPED, 0); STATUS.RUN <- 1` (45 R202). -/
def State.enterStopped (s : State) : State :=
  { s with phase := .stopped, upc := 0, status := statusWithRun s.status (runCode .stopped) }

/-- "advance the sequencer -- next UPC or next PHASE" of 40 R111, by the table of 10 R30. A phase without port
operations has nothing to advance, and the entry into `STOPPED` writes `STATUS.RUN` (45 R202): log 9. At a `UPC` beyond
the range of the phase it leaves the phase as from its last micro-step: DESIGN CHOICE, log 25. -/
def State.advance (s : State) : State :=
  match s.phase with
  | .readT => if s.upc.toNat < maxUpc .readT then s.nextMicro else s.goto .readA
  | .readA => if s.upc.toNat < maxUpc .readA then s.nextMicro else s.goto .eval
  | .drive => s.goto .publish
  | .shutdown => if s.upc.toNat < maxUpc .shutdown then s.nextMicro else s.enterStopped
  | .idle => s
  | .eval => s
  | .publish => s
  | .stopped => s
  | .faulted => s

/-! ## Sequences of port operations -/

/-- `CS_START` (30 R98). -/
def csStart : List PortOp := [.set .cs true, .set .cs false]
/-- `CLK_IDLE` (30 R98). -/
def clkIdle : List PortOp := [.set .clk false]
/-- `PULSE` (30 R98): the clock high, then low. -/
def pulse : List PortOp := [.set .clk true, .set .clk false]
/-- `SHIFT_OUT b` (30 R98): the bit is presented before the pulse and held across it (30 R83). -/
def shiftOut (b : Level) : List PortOp := .set .din b :: pulse
/-- `SHIFT_IN` (30 R98): the sample is taken after the falling edge (30 R83). -/
def shiftIn : List PortOp := pulse ++ [.read .dout]
/-- `CS_END` (30 R98). -/
def csEnd : List PortOp := [.set .cs true]

/-- The command frame of 30 R81 as sent: `START`, `SGL`, `CHSEL`. -/
def addressBits (c : Channel) : List Level := [true, true, channelBit c]

/-- The 37 micro-steps of `ADC_READ` (41 R123), as 30 R98 composes them. -/
def adcProgram (c : Channel) : List PortOp :=
  csStart ++ clkIdle ++ (addressBits c).flatMap shiftOut ++ (List.replicate 8 shiftIn).flatten ++ csEnd

/-- The four micro-steps of `SHUTDOWN` (45 R202). -/
def shutdownProgram : List PortOp := [.set .buz false, .set .cs true, .set .clk false, .set .din false]

/-- What a completed micro-step of a transaction does to `ACC` (41 R123): micro-step 0 clears it, a `READ_LINE` shifts
its bit in, the others leave it. -/
def State.microAcc (s : State) (op : PortOp) (b : Level) : State :=
  match op with
  | .read _ => { s with acc := shiftInBit s.acc b }
  | .set _ _ => if s.upc = 0 then { s with acc := 0 } else s

/-- "deliver bit to the issuing micro-step" (40 R112): in a read phase the issuing micro-step "shifts it into ACC" (41
R126; vectors O5, O7 of 95); in any other phase there is none, and no register is written (log 9). -/
def State.deliverBit (s : State) (b : Level) : State :=
  match s.phase with
  | .readT => { s with acc := shiftInBit s.acc b }
  | .readA => { s with acc := shiftInBit s.acc b }
  | .idle => s
  | .eval => s
  | .drive => s
  | .publish => s
  | .shutdown => s
  | .stopped => s
  | .faulted => s

/-- One micro-step of a transaction (41 R123); `k` is what the sequencer does after it. -/
def State.microStep (s : State) (op : PortOp) (k : State → State) : State :=
  s.portOp op fun b t => k (t.microAcc op b)

/-- The rest of a transaction from the current `UPC` on (41 R120): each micro-step in order; "any IoFault abandons the
transaction at that u". `UPC` stays at the last micro-step, where the caller finds it (log 8). -/
def State.runTransaction (s : State) : List PortOp → State
  | [] => { s with result := .sample s.acc }
  | [op] => s.microStep op fun t => { t with result := .sample t.acc }
  | op :: ops => s.microStep op fun t => t.nextMicro.runTransaction ops

end Sys2Proof.Machine
end

