-- ==== Sys2Proof/Machine/AdcRead.lean ====
section
/-! DEFINITION. The meaning of `ADC_READ` (41 R120) as a call of the driver: the channel check, then the 37 port
operations of 41 R123. `READ_T` and `READ_A` perform the same micro-steps one to a step. -/

namespace Sys2Proof.Machine

/-- `ADC_READ ch` (41 R120): a channel other than 0 or 1 raises `InvalidChannel` "before any port operation" with `ACC`,
`CH` and every line untouched (41 R121), fatal with `FOP = 0` and `FUPC = 0` (60 R220, R228); else `CH <- ch` and the
micro-steps from `UPC = 0`, the result being `ACC`. -/
def execAdcRead (ch : Nat) (s : State) : Host.Outcome State Fault Refusal :=
  s.ctrlStep fun s =>
    match channelOperand ch with
    | none => .next (State.enterFault { s with upc := 0 } .invalidChannel 0)
    | some c => .next (State.runTransaction { s with ch := c, upc := 0 } (adcProgram c))

end Sys2Proof.Machine
end

