-- ==== Sys2Proof/Machine/Alarm.lean ====
section
/-! DEFINITION. The alarm latch's commands `ARM`, `DISARM`, `TOGGLE` (44 R181 to R183) and `DECIDE` (44 R184). -/

namespace Sys2Proof.Machine

/-- One row of the table of 44 R187, `TOGGLE`. -/
def toggleAlarm : AlarmState → AlarmState
  | .disarmed => .armed
  | .armed => .disarmed

/-- `ALARM <- v`, one atomic write, in every phase, `STOPPED` and `FAULTED` included (44 R180). -/
def State.writeAlarm (s : State) (v : AlarmState) : State := { s with alarm := v }

/-- `BUZZ <- DECIDE(ALARM_SEEN, TEMP_VALID, TEMP, THRESH)` (44 R184). -/
def State.decideStep (s : State) : State :=
  { s with buzz := decideBuzzer s.alarmSeen s.tempValid s.temp s.thresh }

/-- `ARM` (44 R181): `ALARM <- 1`. -/
def execArm (s : State) : Host.Outcome State Fault Refusal := .next (s.writeAlarm .armed)

/-- `DISARM` (44 R182): `ALARM <- 0`. -/
def execDisarm (s : State) : Host.Outcome State Fault Refusal := .next (s.writeAlarm .disarmed)

/-- `TOGGLE` (44 R183): `ALARM <- not ALARM`, one atomic read-modify-write. -/
def execToggle (s : State) : Host.Outcome State Fault Refusal := .next (s.writeAlarm (toggleAlarm s.alarm))

/-- `DECIDE` (44 R184), taken on its own: the fourth part of `EVAL`. -/
def execDecide (s : State) : Host.Outcome State Fault Refusal := s.ctrlStep fun s => .next s.decideStep

end Sys2Proof.Machine
end

