-- ==== Sys2Proof/Machine/Conversion.lean ====
section
/-! DEFINITION. The meanings of `CONV_TEMP`, `CONV_THRESH`, `CONV_LIGHT` (42 R148, R153, R155) taken on their own: each
delivers its value (`result`) and writes no register ("Registers written: none by the conversion"; log 12). `EVAL` is
where their values are stored. -/

namespace Sys2Proof.Machine

/-- `CONV_TEMP RAW_T` (42 R148). -/
def execConvTemp (s : State) : Host.Outcome State Fault Refusal :=
  s.ctrlStep fun s => .next { s with result := .temp (convTemp s.cfg s.rawT) }

/-- `CONV_THRESH RAW_A` (42 R153). -/
def execConvThresh (s : State) : Host.Outcome State Fault Refusal :=
  s.ctrlStep fun s => .next { s with result := .thresh (convThresh s.cfg s.rawA) }

/-- `CONV_LIGHT RAW_A` (42 R155). -/
def execConvLight (s : State) : Host.Outcome State Fault Refusal :=
  s.ctrlStep fun s => .next { s with result := .light (convLight s.cfg s.rawA) }

end Sys2Proof.Machine
end

