-- ==== Sys2Proof/Machine/Loop.lean ====
section
/-! DEFINITION. The sampling loop (45): `CYCLE_START`, `READ_T`, `READ_A`, `EVAL`, `DRIVE`, `PUBLISH`, `STOP`,
`SHUTDOWN`. -/

namespace Sys2Proof.Machine

/-- The step out of `IDLE`: `SHUTDOWN` if a stop is requested (45 R201), else a cycle begins (45 R191). `TIMER` can allow
a cycle only in `IDLE`; elsewhere nothing happens, and nothing is queued (45 R191, 60 R231). `UPC` is not looked at
(log 25). -/
def State.leaveIdle (s : State) : State :=
  if s.phase = .idle then
    if s.stopReq then s.goto .shutdown else { s.goto .readT with ch := s.cfg.tempChannel }
  else s

/-- `CYCLE_START` (45 R191); "with STOP_REQ = 1 the IDLE step enters SHUTDOWN instead" (45 R201). -/
def execCycleStart (s : State) : Host.Outcome State Fault Refusal := .next s.leaveIdle

/-- After the last micro-step of `READ_T` (45 R193): `RAW_T <- ACC; CH <- 1 − TEMP_CHANNEL; (PHASE, UPC) <- (READ_A, 0)`. -/
def State.finishReadT (s : State) : State :=
  { s.goto .readA with rawT := s.acc, ch := otherChannel s.cfg.tempChannel }

/-- After the last micro-step of `READ_A` (45 R194): `RAW_A <- ACC; (PHASE, UPC) <- (EVAL, 0)`. -/
def State.finishReadA (s : State) : State := { s.goto .eval with rawA := s.acc }

/-- The micro-step of a read phase at the current `UPC` (41 R123): on `Ok` the next micro-step, or `finish` after the
last one. The channel is the register `CH` (41 R123 row 9), whatever it holds (log 24). `UPC` beyond the table is
`noMicroStep` (log 15). -/
def State.readPhase (s : State) (finish : State → State) : Host.Outcome State Fault Refusal :=
  match (adcProgram s.ch)[s.upc.toNat]? with
  | none => .fault .noMicroStep
  | some op => .next (s.microStep op fun t => if t.upc.toNat < maxUpc .readT then t.nextMicro else finish t)

/-- `READ_T` (45 R193): one micro-step of `ADC_READ CH`; the sequencer has set `CH` to `TEMP_CHANNEL`. That `CH` is not
compared with it here is a DESIGN CHOICE (log 24). -/
def execReadT (s : State) : Host.Outcome State Fault Refusal :=
  s.ctrlStep fun s => s.readPhase State.finishReadT

/-- `READ_A` (45 R194): one micro-step of `ADC_READ CH`; the sequencer has set `CH` to `1 − TEMP_CHANNEL`. That `CH` is
not compared with it here is a DESIGN CHOICE (log 24). -/
def execReadA (s : State) : Host.Outcome State Fault Refusal :=
  s.ctrlStep fun s => s.readPhase State.finishReadA

/-- First part of `EVAL` (45 R195, R196): a valid temperature is stored with the threshold of the same cycle; a
`ConversionFault` keeps `TEMP`, `TEMP_VALID` and `THRESH`. -/
def State.evalConvert (s : State) : State :=
  match convTemp s.cfg s.rawT with
  | .ok q => { s with temp := q, tempValid := true, thresh := convThresh s.cfg s.rawA }
  | .conversionFault => s

/-- `LIGHT <- CONV_LIGHT(RAW_A)`, "every cycle" (45 R195). -/
def State.evalLight (s : State) : State := { s with light := convLight s.cfg s.rawA }

/-- `a <- ALARM; ALARM_SEEN <- a`, "the cycle's single atomic read" (45 R195). -/
def State.evalSeeAlarm (s : State) : State := { s with alarmSeen := s.alarm }

/-- `EVAL` (45 R195): convert, read the alarm latch, decide, in one step; `UPC` is not looked at (log 25). -/
def execEval (s : State) : Host.Outcome State Fault Refusal :=
  s.ctrlStep fun s => .next (s.evalConvert.evalLight.evalSeeAlarm.decideStep.goto .drive)

/-- `DRIVE` (45 R198): `PortSet(BUZ, BUZZ)`; on `Ok`, `(PHASE, UPC) <- (PUBLISH, 0)`; `UPC` is not looked
at (log 25). -/
def execDrive (s : State) : Host.Outcome State Fault Refusal :=
  s.ctrlStep fun s => .next (s.portOp (.set .buz (buzzerBit s.buzz)) fun _ t => t.goto .publish)

/-- The snapshot `PUBLISH` writes (45 R199): the temperature field is 0 while there is none. -/
def State.snapshot (s : State) : BitVec 68 :=
  packSnap (lightBit s.light) (buzzerBit s.buzz) (alarmBit s.alarmSeen) s.tempValid
    (if s.tempValid then s.temp else 0) s.thresh

/-- `PUBLISH` (45 R199): one atomic write of `SNAP`, then `IDLE`; `UPC` is not looked at (log 25). -/
def execPublish (s : State) : Host.Outcome State Fault Refusal :=
  s.ctrlStep fun s => .next { s.goto .idle with snap := s.snapshot }

/-- `STOP` (45 R200): `STOP_REQ <- 1`, one atomic write, in every phase. -/
def execStop (s : State) : Host.Outcome State Fault Refusal := .next { s with stopReq := true }

/-- `SHUTDOWN` (45 R202): the micro-step at the current `UPC`; after the fourth, `STOPPED`. `UPC` beyond the table is
`noMicroStep` (log 15). -/
def execShutdown (s : State) : Host.Outcome State Fault Refusal :=
  s.ctrlStep fun s =>
    match shutdownProgram[s.upc.toNat]? with
    | none => .fault .noMicroStep
    | some op => .next (s.portOp op fun _ t =>
        if t.upc.toNat < maxUpc .shutdown then t.nextMicro else t.enterStopped)

end Sys2Proof.Machine
end

