-- ==== Sys2Proof/Machine/PortOps.lean ====
section
/-! DEFINITION. The meanings of `SET_LINE` (40 R111) and `READ_LINE` (40 R112), each taken on its own. -/

namespace Sys2Proof.Machine

/-- `SET_LINE p, l` (40 R111): the port operation, then "advance the sequencer"; on `IoFault` the fault entry. -/
def execSetLine (p : OutPin) (l : Level) (s : State) : Host.Outcome State Fault Refusal :=
  s.ctrlStep fun s => .next (s.portOp (.set p l) fun _ t => t.advance)

/-- `READ_LINE p` (40 R112): the port operation; the bit is delivered (`result`, and `ACC` where the issuing micro-step
shifts it in) and the sequencer advances; on `IoFault` the fault entry. -/
def execReadLine (p : InPin) (s : State) : Host.Outcome State Fault Refusal :=
  s.ctrlStep fun s => .next (s.portOp (.read p) fun b t => { (t.deliverBit b).advance with result := .bit b })

end Sys2Proof.Machine
end

