-- ==== Sys2Proof/Syntax.lean ====
section
/-! DEFINITION. The operations of the block: one constructor for every row of `spec/opcode_table.json` (30 R96). -/

namespace Sys2Proof

/-- The 18 operations of 30 R96. `ADC_READ`'s operand is a natural number, as at "the driver's call boundary"
(41 R120); the pins of `SET_LINE` and `READ_LINE` are typed so that the reserved words of 30 R86 have no term. -/
inductive Instr where
  | setLine (p : OutPin) (l : Level)
  | readLine (p : InPin)
  | adcRead (ch : Nat)
  | convTemp
  | convThresh
  | convLight
  | decide
  | arm
  | disarm
  | toggle
  | stop
  | cycleStart
  | readT
  | readA
  | eval
  | drive
  | publish
  | shutdown
deriving DecidableEq, Repr, Inhabited

end Sys2Proof
end

