-- ==== Sys2Proof/Machine/Dispatch.lean ====
section
/-! DEFINITION. The meaning of every operation: one arm per constructor of `Instr`. -/

namespace Sys2Proof.Machine

def exec (i : Instr) (s : State) : Host.Outcome State Fault Refusal :=
  match i with
  | .setLine p l => Sys2Proof.Machine.execSetLine p l s
  | .readLine p => Sys2Proof.Machine.execReadLine p s
  | .adcRead ch => Sys2Proof.Machine.execAdcRead ch s
  | .convTemp => Sys2Proof.Machine.execConvTemp s
  | .convThresh => Sys2Proof.Machine.execConvThresh s
  | .convLight => Sys2Proof.Machine.execConvLight s
  | .decide => Sys2Proof.Machine.execDecide s
  | .arm => Sys2Proof.Machine.execArm s
  | .disarm => Sys2Proof.Machine.execDisarm s
  | .toggle => Sys2Proof.Machine.execToggle s
  | .stop => Sys2Proof.Machine.execStop s
  | .cycleStart => Sys2Proof.Machine.execCycleStart s
  | .readT => Sys2Proof.Machine.execReadT s
  | .readA => Sys2Proof.Machine.execReadA s
  | .eval => Sys2Proof.Machine.execEval s
  | .drive => Sys2Proof.Machine.execDrive s
  | .publish => Sys2Proof.Machine.execPublish s
  | .shutdown => Sys2Proof.Machine.execShutdown s

end Sys2Proof.Machine
end

