-- ==== Sys2Proof/WellFormed.lean ====
section
/-! DEFINITION. Which terms of `Instr` an encoding admits, and which have a word of their own. -/

namespace Sys2Proof

/-- "A channel operand other than 0 or 1 cannot be encoded in `CHSEL`" (30 R94). Every other operand is typed so that
each of its values has an encoding. An ill-formed `ADC_READ` still has a meaning: it is rejected with
`InvalidChannel` (41 R121). -/
def Instr.wellFormed : Instr → Bool
  | .adcRead ch => Nat.blt ch 2
  | .setLine _ _ => true
  | .readLine _ => true
  | .convTemp => true
  | .convThresh => true
  | .convLight => true
  | .decide => true
  | .arm => true
  | .disarm => true
  | .toggle => true
  | .stop => true
  | .cycleStart => true
  | .readT => true
  | .readA => true
  | .eval => true
  | .drive => true
  | .publish => true
  | .shutdown => true

/-- `CONV_TEMP`, `CONV_THRESH`, `CONV_LIGHT` and `DECIDE` "have no encoding of their own: they are the four
combinational parts of the single `EVAL` step" (30 R96); every other operation has one. -/
def Instr.hasOwnWord : Instr → Bool
  | .convTemp => false
  | .convThresh => false
  | .convLight => false
  | .decide => false
  | .setLine _ _ => true
  | .readLine _ => true
  | .adcRead _ => true
  | .arm => true
  | .disarm => true
  | .toggle => true
  | .stop => true
  | .cycleStart => true
  | .readT => true
  | .readA => true
  | .eval => true
  | .drive => true
  | .publish => true
  | .shutdown => true

end Sys2Proof
end

