-- ==== Sys2Proof/Decode.lean ====
section
/-! DEFINITION. The decoder, one reading per format of 30 R80, and after it the encoder, both from 30 R81, R85, R87,
10 R30 and 30 R96. A word carries no mark of its format: the interface it crosses says which one it is. -/

namespace Sys2Proof

/-- The length of a word of each format (30 R80). -/
def formatWidth : Format → Nat
  | .pop => 5
  | .aframe => 3
  | .cmd => 2
  | .phase => 4

/-- `POP` (30 R85); the words of 30 R86 are rejected. -/
def decodePop (w : BitVec 5) : Except DecodeError Instr :=
  match w.getLsbD 4, outPinOfId (w.extractLsb' 1 3), inPinOfId (w.extractLsb' 1 3), w.getLsbD 0 with
  | false, some p, _, l => .ok (.setLine p l)
  | true, _, some p, false => .ok (.readLine p)
  | _, _, _, _ => .error .reservedPop

/-- `AFRAME`, first-sent bit leftmost: bit 2 `START`, bit 1 `SGL`, bit 0 `CHSEL` (30 R81, R94). -/
def decodeFrame (w : BitVec 3) : Except DecodeError Instr :=
  match w.getLsbD 2, w.getLsbD 1, w.getLsbD 0 with
  | true, true, c => .ok (.adcRead c.toNat)
  | _, _, _ => .error .reservedFrame

/-- `CMD` (30 R87): "All four codes are used". -/
def decodeCmd (w : BitVec 2) : Instr :=
  match w.getLsbD 1, w.getLsbD 0 with
  | false, false => .arm
  | false, true => .disarm
  | true, false => .toggle
  | true, true => .stop

/-- `PHASE` (10 R30, 30 R96): the phases that have an operation. -/
def decodePhase (w : BitVec 4) : Except DecodeError Instr :=
  match w.toNat with
  | 0 => .ok .cycleStart
  | 1 => .ok .readT
  | 2 => .ok .readA
  | 3 => .ok .eval
  | 4 => .ok .drive
  | 5 => .ok .publish
  | 6 => .ok .shutdown
  | 7 => .error .terminalPhase
  | 8 => .error .terminalPhase
  | _ => .error .reservedPhase

/-- The operation a word of a format selects, or why there is none. Total on every number. -/
def decode (f : Format) (w : Nat) : Except DecodeError Instr :=
  if w < 2 ^ formatWidth f then
    match f with
    | .pop => decodePop (BitVec.ofNat 5 w)
    | .aframe => decodeFrame (BitVec.ofNat 3 w)
    | .cmd => .ok (decodeCmd (BitVec.ofNat 2 w))
    | .phase => decodePhase (BitVec.ofNat 4 w)
  else .error .tooWide

/-- The format and word that select an operation (30 R96). The four parts of `EVAL` have no word of their own and give
the word of `EVAL`, as the table does. -/
def encode : Instr → Format × Nat
  | .setLine p l => (.pop, (popWord (.set p l)).toNat)
  | .readLine p => (.pop, (popWord (.read p)).toNat)
  | .adcRead ch => (.aframe, 6 + ch)
  | .convTemp => (.phase, 3)
  | .convThresh => (.phase, 3)
  | .convLight => (.phase, 3)
  | .decide => (.phase, 3)
  | .arm => (.cmd, 0)
  | .disarm => (.cmd, 1)
  | .toggle => (.cmd, 2)
  | .stop => (.cmd, 3)
  | .cycleStart => (.phase, 0)
  | .readT => (.phase, 1)
  | .readA => (.phase, 2)
  | .eval => (.phase, 3)
  | .drive => (.phase, 4)
  | .publish => (.phase, 5)
  | .shutdown => (.phase, 6)

/-- The format in which a bare word is read. The widths 2, 3, 4, 5 name `CMD`, `AFRAME`, `PHASE`, `POP`. Any other
width (a whole byte) names none: the word is then read as the first of `PHASE`, `AFRAME`, `POP` in which it is an
operation. DESIGN CHOICE, log 14: the spec's formats share their words. -/
def tableFormat (nbits w : Nat) : Format :=
  if nbits = 2 then .cmd
  else if nbits = 3 then .aframe
  else if nbits = 4 then .phase
  else if nbits = 5 then .pop
  else match decode .phase w, decode .aframe w with
    | .ok _, _ => .phase
    | .error _, .ok _ => .aframe
    | .error _, .error _ => .pop

/-- What the decoder reads from a bare word of `nbits` bits. -/
def decodeTableWord (nbits w : Nat) : Option Instr :=
  match decode (tableFormat nbits w) w with
  | .ok i => some i
  | .error _ => none

end Sys2Proof
end

