-- ==== Sys2Proof/Machine/Fetch.lean ====
section
/-! DEFINITION. Which word the next step takes, and what a step does that runs no operation. There is no instruction
memory (20 R73): a command word comes from `CMD` (30 R87), and the word of `CTRL`'s own operation is its `PHASE`
(30 R96). -/

namespace Sys2Proof.Machine

/-- The word the next step takes, with its format, or none. In `IDLE` `CTRL` waits for `TIMER` unless a stop is
requested (45 R190, R201); outside `IDLE` the timer is masked (60 R231); a terminal phase has no operation. -/
def State.fetch (s : State) : Option (Format × Nat) :=
  match s.eventAt 0 with
  | .cmd w => some (.cmd, w.toNat)
  | .tick => if s.phase = .idle then some (.phase, (phaseCode s.phase).toNat) else none
  | .ctrl =>
    if s.halted then none
    else if s.phase = .idle then
      if s.stopReq then some (.phase, (phaseCode s.phase).toNat) else none
    else some (.phase, (phaseCode s.phase).toNat)
  | .viewSnap => none
  | .viewStatus => none
  | .reset => none

/-- A step that runs no operation: reset (70 R260), a read by `VIEW` (20 R66), or a turn in which the agent has no
enabled step. The event has been taken from the script before. -/
def State.noOperation (s : State) (e : Event) : State :=
  match e with
  | .reset => s.resetNow
  | .viewSnap => { s with view := { s.view with snap := some s.snap } }
  | .viewStatus => { s with view := { s.view with status := some s.status } }
  | .tick => s
  | .ctrl => s
  | .cmd _ => s

/-- The phase with an operation whose code is `w` (10 R30). -/
def phaseOfWord (w : Nat) : Phase :=
  match w with
  | 0 => .idle
  | 1 => .readT
  | 2 => .readA
  | 3 => .eval
  | 4 => .drive
  | 5 => .publish
  | _ => .shutdown

/-- `CH` as the sequencer has it on entry to a phase: "Operand: `CH = TEMP_CHANNEL`" (45 R193), "`CH = 1 −
TEMP_CHANNEL`" (45 R194); the other phases have no channel operand. -/
def State.channelFor (s : State) (p : Phase) : Channel :=
  match p with
  | .readT => s.cfg.tempChannel
  | .readA => otherChannel s.cfg.tempChannel
  | .idle => s.ch
  | .eval => s.ch
  | .drive => s.ch
  | .publish => s.ch
  | .shutdown => s.ch
  | .stopped => s.ch
  | .faulted => s.ch

/-- The sequencer at a position, with `CTRL` to move. -/
def State.at (s : State) (p : Phase) (u : BitVec 6) : State :=
  { s with phase := p, upc := u, env := { s.env with events := .ctrl :: s.env.events } }

/-- A word placed where the next step takes it, for each format (log 14). A `PHASE` word is the phase itself, at its
first micro-step, with `CH` the operand of a read phase (45 R193, R194), and with `TIMER` allowing the cycle for
`CYCLE_START`; a `CMD` word is presented by `CMD`; a `POP` word is the next port operation of a position of the sequencer
that issues it, with `CH` as it stands, and with `BUZZ` written `On` for the word 09, which `DRIVE` issues for that value
alone (DESIGN CHOICE, log 14); an `AFRAME` is the first micro-step of `READ_T` with that channel, `TEMP_CHANNEL`
or not (log 24). -/
def State.placeWord (s : State) (f : Format) (w : Nat) : State :=
  match f with
  | .cmd => { s with env := { s.env with events := .cmd (BitVec.ofNat 2 w) :: s.env.events } }
  | .phase =>
    if w = 0 then { s with phase := .idle, upc := 0, env := { s.env with events := .tick :: s.env.events } }
    else State.at { s with ch := s.channelFor (phaseOfWord w) } (phaseOfWord w) 0
  | .aframe => State.at { s with ch := channelOfBit (w.testBit 0) } .readT 0
  | .pop =>
    match w with
    | 0x00 => s.at .shutdown 2
    | 0x01 => s.at .readT 4
    | 0x02 => s.at .shutdown 3
    | 0x03 => s.at .readT 3
    | 0x06 => s.at .readT 1
    | 0x07 => s.at .shutdown 1
    | 0x08 => s.at .shutdown 0
    | 0x09 => State.at { s with buzz := .on } .drive 0
    | _ => s.at .readT 14

end Sys2Proof.Machine
end

