-- ==== Sys2Proof/Machine/Step.lean ====
section
/-! DEFINITION. One step of the whole machine: the agent the script names takes its step. -/

namespace Sys2Proof.Machine

/-- The event is taken from the script; if it selects a word, the decoded operation runs on the machine without that
event; else the step runs no operation (`State.noOperation`). -/
def step (s : State) : Host.Outcome State Fault Refusal :=
  match s.fetch with
  | some (f, w) =>
    match decode f w with
    | .ok i => exec i s.consumeEvent
    | .error e => .refused (.undecodable e)
  | none => .next (s.consumeEvent.noOperation (s.eventAt 0))

/-- `s` with the operation of a bare word placed where the next step takes it (`State.placeWord`, log 14); a word that
is no operation changes nothing. -/
def State.withFetchWord (s : State) (nbits w : Nat) : State :=
  match decode (tableFormat nbits w) w with
  | .ok _ => s.placeWord (tableFormat nbits w) w
  | .error _ => s

end Sys2Proof.Machine
end

