-- ==== Sys2Proof/Safety.lean ====
section
/-! DEFINITION. The terms statements are made in: frames, the tables of the spec restated, the premises about the
environment (20 R68, 45 R191), and the invariants of the machine (10 R25, R30, R31, R32, R37, R41, 45 R204). -/

namespace Sys2Proof.Machine

/-! ## Frames -/

/-- `CONFIG` and what `VIEW` has read are unchanged. -/
def SameOutside (s t : State) : Prop := t.cfg = s.cfg ∧ t.view = s.view

/-- The registers of a transaction are unchanged: `ACC`, `CH`, `RAW_T`, `RAW_A`. -/
def SameSamples (s t : State) : Prop := t.acc = s.acc ∧ t.ch = s.ch ∧ t.rawT = s.rawT ∧ t.rawA = s.rawA

/-- The registers `EVAL` writes are unchanged. -/
def SameReading (s t : State) : Prop :=
  t.tempValid = s.tempValid ∧ t.temp = s.temp ∧ t.thresh = s.thresh ∧ t.light = s.light ∧
    t.alarmSeen = s.alarmSeen ∧ t.buzz = s.buzz

/-- The latches the commands write are unchanged. -/
def SameLatches (s t : State) : Prop := t.alarm = s.alarm ∧ t.stopReq = s.stopReq

/-- The sequencer position is unchanged. -/
def SamePosition (s t : State) : Prop := t.phase = s.phase ∧ t.upc = s.upc

/-- `STATUS` and the reports emitted are unchanged. -/
def SameStatus (s t : State) : Prop := t.status = s.status ∧ t.reports = s.reports

/-- No port operation has been issued: trace, every line, and the answers to come are unchanged. -/
def SamePort (s t : State) : Prop :=
  t.trace = s.trace ∧ (∀ p, t.lines.get p = s.lines.get p) ∧ ∀ k, t.answerAt k = s.answerAt k

/-- Exactly the port operation `op` has been issued and answered `a`: one more trace entry, one answer used, and no line
changed but the one `op` sets (10 R41). -/
def OnePortOp (s t : State) (op : PortOp) (a : PortAnswer) : Prop :=
  t.trace = s.trace ++ [⟨popWord op, traceOutcome op a⟩] ∧
  (∀ q, t.lines.get q = match op, a with
    | .set p l, .ok _ => if q = p then .driven l else s.lines.get q
    | .set p _, .ioFault => if q = p then .unknown else s.lines.get q
    | .read _, _ => s.lines.get q) ∧
  ∀ k, t.answerAt k = s.answerAt (k + 1)

/-- The machine has entered `FAULTED` as 60 R225 says, from the position `(ph, u)`. -/
def EnteredFault (s t : State) (code : FaultCode) (fop : BitVec 5) (ph : Phase) (u : BitVec 6) : Prop :=
  t.phase = .faulted ∧ t.upc = 0 ∧
  statusRun t.status = 2 ∧ statusFcode t.status = faultNumber code ∧ statusFop t.status = fop ∧
  statusFphase t.status = phaseCode ph ∧ statusFupc t.status = u ∧
  t.reports = s.reports ++ [⟨code, fop, phaseCode ph, u⟩]

/-! ## Tables of the spec -/

/-- The position after a completed port operation, by the table of 10 R30 ("leaves to"); a phase without port operations
stays. -/
def nextPosition (p : Phase) (u : BitVec 6) : Phase × BitVec 6 :=
  match p with
  | .readT => if u.toNat < 36 then (.readT, u + 1) else (.readA, 0)
  | .readA => if u.toNat < 36 then (.readA, u + 1) else (.eval, 0)
  | .drive => (.publish, 0)
  | .shutdown => if u.toNat < 3 then (.shutdown, u + 1) else (.stopped, 0)
  | .idle => (.idle, u)
  | .eval => (.eval, u)
  | .publish => (.publish, u)
  | .stopped => (.stopped, u)
  | .faulted => (.faulted, u)

/-- The `POP` words of a transaction, row by row of the table of 41 R123. -/
def transactionWords (c : Channel) : List (BitVec 5) :=
  [0x07, 0x06, 0x00, 0x03, 0x01, 0x00, 0x03, 0x01, 0x00,
    (match c with | .ch0 => 0x02 | .ch1 => 0x03), 0x01, 0x00,
    0x01, 0x00, 0x14, 0x01, 0x00, 0x14, 0x01, 0x00, 0x14, 0x01, 0x00, 0x14,
    0x01, 0x00, 0x14, 0x01, 0x00, 0x14, 0x01, 0x00, 0x14, 0x01, 0x00, 0x14, 0x07]

/-- The port operation an instruction issues as the only one of its step, if it issues one in this state. -/
def portOpOf (s : State) : Instr → Option PortOp
  | .setLine p l => some (.set p l)
  | .readLine p => some (.read p)
  | .readT => (adcProgram s.ch)[s.upc.toNat]?
  | .readA => (adcProgram s.ch)[s.upc.toNat]?
  | .drive => some (.set .buz (buzzerBit s.buzz))
  | .shutdown => shutdownProgram[s.upc.toNat]?
  | .adcRead _ => none
  | .convTemp => none
  | .convThresh => none
  | .convLight => none
  | .decide => none
  | .arm => none
  | .disarm => none
  | .toggle => none
  | .stop => none
  | .cycleStart => none
  | .eval => none
  | .publish => none

/-- The instruction is a command of `CMD` (30 R87). -/
def isCommand : Instr → Bool
  | .arm => true
  | .disarm => true
  | .toggle => true
  | .stop => true
  | .setLine _ _ => false
  | .readLine _ => false
  | .adcRead _ => false
  | .convTemp => false
  | .convThresh => false
  | .convLight => false
  | .decide => false
  | .cycleStart => false
  | .readT => false
  | .readA => false
  | .eval => false
  | .drive => false
  | .publish => false
  | .shutdown => false

/-- The trace of port operations that are all answered `Ok`, the `k`-th with the bit `bits k`. -/
def okTrace : List PortOp → (Nat → Level) → List TraceEntry
  | [], _ => []
  | op :: ops, bits => traceEntry op (.ok (bits 0)) :: okTrace ops fun k => bits (k + 1)

/-- The bits the `READ_LINE`s among port operations deliver, in order. -/
def readBits : List PortOp → (Nat → Level) → List Level
  | [], _ => []
  | .read _ :: ops, bits => bits 0 :: readBits ops fun k => bits (k + 1)
  | .set _ _ :: ops, bits => readBits ops fun k => bits (k + 1)

/-- "`ACC <- 8'0`, repeat ... in order of arrival" (30 R93). -/
def sampleOfBits (bits : List Level) : RawSample := bits.foldl shiftInBit 0

/-! ## Premises about the environment -/

/-- `PORT` answers the next `n` port operations with `Ok`, the `k`-th with the bit `bits k` on `DOUT`. -/
def AnswersOk (s : State) (n : Nat) (bits : Nat → Level) : Prop := ∀ k, k < n → s.answerAt k = .ok (bits k)

/-- The ideal-converter premise of 20 R68 for one transaction: the `k`-th data-phase read returns bit `7 − k` of the
code. -/
def ConverterSends (s : State) (code : RawSample) : Prop :=
  ∀ k, k < 8 → s.answerAt (14 + 3 * k) = .ok (code.getLsbD (7 - k))

/-- Weak fairness of `TIMER` (45 R191): among the free events it allows a cycle again and again. -/
def TimerFair : Prop := ∀ n, ∃ m, n ≤ m ∧ Config.freeEvent m = .tick

/-! ## Invariants -/

/-- `UPC` is in the range of its phase (10 R30, R31). -/
def PositionLegal (s : State) : Prop := s.upc.toNat ≤ maxUpc s.phase

/-- `CH` holds the channel of the read phase (45 R193, R194). -/
def ChannelLegal (s : State) : Prop :=
  (s.phase = .readT → s.ch = s.cfg.tempChannel) ∧ (s.phase = .readA → s.ch = otherChannel s.cfg.tempChannel)

/-- `STATUS` as 10 R37 says: outside `FAULTED` only `RUN` is nonzero and nothing has been reported; in `FAULTED` the one
report and `STATUS` carry the same record of a fatal fault (60 R232). -/
def StatusLegal (s : State) : Prop :=
  (s.phase ≠ .faulted → s.status = packStatus (runCode s.phase) 0 0 0 0 ∧ s.reports = []) ∧
  (s.phase = .faulted → ∃ r, s.reports = [r] ∧ r.code ≠ .conversionFault ∧
    s.status = packStatus 2 (faultNumber r.code) r.fop r.fphase r.fupc)

/-- `Q(THRESH_MIN) ≤ THRESH ≤ Q(THRESH_MAX)` under a calibration, in the register and in the snapshot (10 R25, 45 R204). -/
def ThreshLegal (cal : Calibration ℝ) (s : State) : Prop :=
  inThreshRange cal s.thresh = true ∧ inThreshRange cal (snapThreshold s.snap) = true

/-- "`buzzer_on = 1` exactly when `alarm_state = 1` and `temp_valid = 1` and `temperature >s threshold`, all four read
from the same snapshot" (45 R204); and the temperature reads 0 when there is none (10 R36). -/
def snapConsistent (w : BitVec 68) : Prop :=
  (snapBuzzerOn w = true ↔
    snapAlarmState w = true ∧ snapTempValid w = true ∧ (snapThreshold w).toInt < (snapTemperature w).toInt) ∧
  (snapTempValid w = false → snapTemperature w = 0)

/-- The snapshot is consistent, and between `EVAL` and `PUBLISH` the decision held is that of the registers. -/
def SnapLegal (s : State) : Prop :=
  snapConsistent s.snap ∧
  (s.phase = .drive ∨ s.phase = .publish → s.buzz = decideBuzzer s.alarmSeen s.tempValid s.temp s.thresh)

/-- How one trace entry changes `LINE[p]` (10 R41). -/
def lineStep (p : OutPin) (v : LineLevel) (e : TraceEntry) : LineLevel :=
  if e.word = popWord (.set p true) then (if e.outcome = .ioFault then .unknown else .driven true)
  else if e.word = popWord (.set p false) then (if e.outcome = .ioFault then .unknown else .driven false)
  else v

/-- `LINE[p]` as "a function of the port trace" (10 R41). -/
def lineOfTrace (p : OutPin) (tr : List TraceEntry) : LineLevel := tr.foldl (lineStep p) .undriven

/-- Every line is what the trace since reset says (10 R41). -/
def LinesFollowTrace (s : State) : Prop := ∀ p, s.lines.get p = lineOfTrace p s.trace

/-- The last `UPC` entries of the trace. -/
def transactionTail (s : State) : List TraceEntry := s.trace.drop (s.trace.length - s.upc.toNat)

/-- The bit a trace entry delivered, if it is a read that was answered. -/
def entryBit (e : TraceEntry) : Option Level :=
  match e.outcome with
  | .okBit b => some b
  | .ok => none
  | .ioFault => none

/-- "between `UPC = 0` and `UPC = 36` of a read phase the only `CTRL` steps are the port operations of that transaction,
in order" (10 R32): the trace ends in the rows 0 to `UPC − 1` of the table of 41 R123 for channel `CH`, all answered
`Ok`, and `ACC` holds the bits they have delivered, first bit highest (41 R126). -/
def TransactionLegal (s : State) : Prop :=
  s.phase = .readT ∨ s.phase = .readA →
    s.upc.toNat ≤ s.trace.length ∧
    (transactionTail s).map TraceEntry.word = (transactionWords s.ch).take s.upc.toNat ∧
    (∀ e ∈ transactionTail s, e.outcome ≠ .ioFault) ∧
    (s.upc ≠ 0 → s.acc = sampleOfBits ((transactionTail s).filterMap entryBit))

end Sys2Proof.Machine
end

