-- ==== Sys2Proof/Certificates/Slice0/Obligations.lean ====
section
/-! DEFINITION. The statements for the provers. They come from the numbered rules of the spec; a statement that rests on a
choice of the model says so and names the log entry. -/

open Sys2Proof Sys2Proof.Machine

/-- For every operation i that is well formed and has a word of its own, decoding encode i in its format answers i, with
every operand at every value the encoding admits. (Tier 3, encoding.) Rests on: 30_encoding.md sections 1 to 9 (R80,
R85, R87, R96); 10_state.md R30. -/
def Obligations.DecodeReadsBackEveryEncoding : Prop :=
  ∀ i : Instr, i.wellFormed = true → i.hasOwnWord = true → decode (encode i).1 (encode i).2 = .ok i

/-- For every format f, number w and operation i: if decode f w is i, then i is well formed, has a word of its own, and
encode i is (f, w). So no two words of a format mean the same and no bit of a word is ignored. Rests on:
30_encoding.md sections 3, 4, 7, 9 (R85, R87, R94, R96). -/
def Obligations.EveryWordHasOneMeaning : Prop :=
  ∀ (f : Format) (w : Nat) (i : Instr), decode f w = .ok i →
    i.wellFormed = true ∧ i.hasOwnWord = true ∧ encode i = (f, w)

/-- A POP word is an operation exactly when it is one of 00 01 02 03 06 07 08 09 14 (hex); an AFRAME exactly when it is
110 or 111; every 2-bit CMD word is; a PHASE code exactly when it is 0 to 6. Every other number is rejected by name.
Rests on: 30_encoding.md sections 3 and 7 (R85, R86, R94); 10_state.md R30. -/
def Obligations.ReservedWordsAreRejected : Prop :=
  (∀ w : Nat, (∃ i, decode .pop w = .ok i) ↔ w ∈ [0x00, 0x01, 0x02, 0x03, 0x06, 0x07, 0x08, 0x09, 0x14]) ∧
  (∀ w : Nat, (∃ i, decode .aframe w = .ok i) ↔ w ∈ [6, 7]) ∧
  (∀ w : Nat, (∃ i, decode .cmd w = .ok i) ↔ w < 4) ∧
  (∀ w : Nat, (∃ i, decode .phase w = .ok i) ↔ w < 7)

/-- SET_LINE CS,1 is POP 07, SET_LINE DIN,0 is POP 02, SET_LINE BUZ,1 is POP 09, READ_LINE DOUT is POP 14, ADC_READ 1 is
the frame 111, TOGGLE is CMD 10, SHUTDOWN is PHASE 0110, READ_A is PHASE 0010; CONV_TEMP, CONV_THRESH, CONV_LIGHT
and DECIDE have only the word of EVAL, PHASE 0011, which decodes to EVAL. Rests on: 30_encoding.md sections 2, 3, 4,
9 (R81, R85, R87, R96). -/
def Obligations.SpecWordsDecode : Prop :=
  decode .pop 0x07 = .ok (.setLine .cs true) ∧ decode .pop 0x02 = .ok (.setLine .din false) ∧
  decode .pop 0x09 = .ok (.setLine .buz true) ∧ decode .pop 0x14 = .ok (.readLine .dout) ∧
  decode .aframe 0b111 = .ok (.adcRead 1) ∧ decode .cmd 0b10 = .ok .toggle ∧
  decode .phase 0b0110 = .ok .shutdown ∧ decode .phase 0b0010 = .ok .readA ∧
  ∀ i : Instr, i ∈ [Instr.convTemp, .convThresh, .convLight, .decide] →
    encode i = (.phase, 0b0011) ∧ decode .phase 0b0011 = .ok .eval

/-- A turn of CTRL in READ_T, READ_A, EVAL, DRIVE, PUBLISH or SHUTDOWN runs exec of that phase's operation, which is
what the phase's code 1 to 6 decodes to; a command word 00, 01, 10, 11 runs ARM, DISARM, TOGGLE, STOP in every
phase; in IDLE a permission of TIMER, or a turn of CTRL with a stop requested, runs CYCLE_START, which is what the
code 0 decodes to. Each runs on the same state with this step's event used, and no answer of PORT used. (That a turn
with a stop requested runs CYCLE_START's step, and the script of events, are the model's choices: logs 1 and 19.)
Rests on: 30_encoding.md section 9 (R96); 30_encoding.md R87; 10_state.md R30; 45_sampling_loop.md R190, R191, R201. -/
def Obligations.StepRunsTheDecodedOperation : Prop :=
  (∀ (s : State) (p : Phase) (w : Nat) (i : Instr),
    (p, w, i) ∈ [(Phase.readT, 1, Instr.readT), (.readA, 2, .readA), (.eval, 3, .eval), (.drive, 4, .drive),
      (.publish, 5, .publish), (.shutdown, 6, .shutdown)] →
    s.eventAt 0 = .ctrl → s.phase = p → decode .phase w = .ok i ∧ step s = exec i s.consumeEvent) ∧
  (∀ (s : State) (w : BitVec 2) (i : Instr),
    (w, i) ∈ [(0b00, Instr.arm), (0b01, .disarm), (0b10, .toggle), (0b11, .stop)] →
    s.eventAt 0 = .cmd w → decode .cmd w.toNat = .ok i ∧ step s = exec i s.consumeEvent) ∧
  (∀ s : State, s.phase = .idle → (s.eventAt 0 = .tick ∨ (s.eventAt 0 = .ctrl ∧ s.stopReq = true)) →
    decode .phase 0 = .ok .cycleStart ∧ step s = exec .cycleStart s.consumeEvent) ∧
  ∀ s : State, s.consumeEvent = { s with env := s.consumeEvent.env } ∧
    (∀ k, s.consumeEvent.eventAt k = s.eventAt (k + 1)) ∧ ∀ k, s.consumeEvent.answerAt k = s.answerAt k

/-- In every state, whatever the environment does next, step does not answer a refusal: every phase that is not terminal
has an operation and all four command codes are used. Rests on: 30_encoding.md sections 4 and 9 (R87, R96);
10_state.md R30. -/
def Obligations.NoStepIsRefused : Prop :=
  ∀ (s : State) (r : Refusal), step s ≠ .refused r

/-- If UPC is in the range of its phase (the table of R30), step s answers a next state: the model's own stop
noMicroStep is not reached, and a fault of the spec is a next state. (A turn without an enabled step is a step too:
the model's choice, log 19.) Rests on: 10_state.md section 3 (R30, R31); 60_exceptions.md section 1 (R220). -/
def Obligations.LegalPositionsNeverFault : Prop :=
  ∀ s : State, PositionLegal s → ∃ t, step s = .next t

/-- In IDLE with no stop requested, a turn of CTRL changes nothing; outside IDLE, a permission of TIMER changes nothing
(no start is queued). Only the event is used up. (That a turn without an enabled step is a step that uses up the
scripted event is the model's choice: logs 1 and 19.) Rests on: 45_sampling_loop.md section 1 (R190, R191);
60_exceptions.md R231. -/
def Obligations.IdleWaitsForTheTimer : Prop :=
  ∀ s : State, ((s.eventAt 0 = .ctrl ∧ s.phase = .idle ∧ s.stopReq = false) ∨ (s.eventAt 0 = .tick ∧ s.phase ≠ .idle)) →
    ∃ t, step s = .next t ∧ SamePosition s t ∧ SameSamples s t ∧ SameReading s t ∧ SameLatches s t ∧ SameStatus s t ∧
      SamePort s t ∧ SameOutside s t ∧ t.snap = s.snap ∧ t.result = s.result ∧ ∀ k, t.eventAt k = s.eventAt (k + 1)

/-- A read by VIEW gives it the 68 bits of SNAP or the 19 bits of STATUS as they stand, and changes no register, line or
trace. (That the model keeps what VIEW read is the model's own, log 17.) Rests on: 20_memory.md section 3 (R66);
10_state.md R36, R37, R39. -/
def Obligations.ViewReadsWholeRegisters : Prop :=
  ∀ s : State, (s.eventAt 0 = .viewSnap ∨ s.eventAt 0 = .viewStatus) →
    ∃ t, step s = .next t ∧ (s.eventAt 0 = .viewSnap → t.view.snap = some s.snap) ∧
      (s.eventAt 0 = .viewStatus → t.view.status = some s.status) ∧
      SamePosition s t ∧ SameSamples s t ∧ SameReading s t ∧ SameLatches s t ∧ SameStatus s t ∧ SamePort s t ∧
      t.cfg = s.cfg ∧ t.snap = s.snap

/-- For every configuration c, the machine right after reset has every register and every line at the value of R44, the
open ones at the parameters of c, and SNAP's fields as R36 says. (The configuration of State.reset itself is the
model's choice: logs 3 and 4; that the trace and the reports are empty after reset is the model's choice, log 16.)
Rests on: 10_state.md R36, R44. -/
def Obligations.ResetLeavesTheTableOfValues : Prop :=
  ∀ c : Config, ∀ t : State, t = State.resetWith c →
    t.cfg = c ∧ t.phase = .idle ∧ t.upc = 0 ∧ t.acc = 0 ∧ t.ch = .ch0 ∧ t.rawT = 0 ∧ t.rawA = 0 ∧ t.tempValid = false ∧
      t.temp = 0 ∧ t.thresh = c.threshReset ∧ t.light = c.lightReset ∧ t.alarmSeen = c.alarmReset ∧ t.buzz = .off ∧
      t.alarm = c.alarmReset ∧ t.stopReq = false ∧ t.status = 0 ∧
      snapThreshold t.snap = c.threshReset ∧ snapTemperature t.snap = 0 ∧ snapTempValid t.snap = false ∧
      snapAlarmState t.snap = alarmBit c.alarmReset ∧ snapBuzzerOn t.snap = false ∧
      snapLight t.snap = lightBit c.lightReset ∧ (∀ p : Pin, t.line p = .undriven) ∧ t.trace = [] ∧ t.reports = []

/-- In every state, a step that is a reset answers a next state with every register and line at the value of R44 under
the same configuration, no port operation having been issued. (The configuration kept at a run-time reset is the
model's reading, log 18; that reset empties the trace and the reports is the model's, logs 16 and 18.) Rests on:
70_reset_and_hazards.md section 1 (R260, R261); 10_state.md R44. -/
def Obligations.ResetLeavesEveryState : Prop :=
  ∀ s : State, s.eventAt 0 = .reset →
    ∃ t, step s = .next t ∧ t.cfg = s.cfg ∧ (∀ k, t.answerAt k = s.answerAt k) ∧ t.phase = .idle ∧ t.upc = 0 ∧ t.acc = 0 ∧ t.ch = .ch0 ∧ t.rawT = 0 ∧ t.rawA = 0 ∧ t.tempValid = false ∧
      t.temp = 0 ∧ t.thresh = s.cfg.threshReset ∧ t.light = s.cfg.lightReset ∧ t.alarmSeen = s.cfg.alarmReset ∧ t.buzz = .off ∧
      t.alarm = s.cfg.alarmReset ∧ t.stopReq = false ∧ t.status = 0 ∧
      snapThreshold t.snap = s.cfg.threshReset ∧ snapTemperature t.snap = 0 ∧ snapTempValid t.snap = false ∧
      snapAlarmState t.snap = alarmBit s.cfg.alarmReset ∧ snapBuzzerOn t.snap = false ∧
      snapLight t.snap = lightBit s.cfg.lightReset ∧ (∀ p : Pin, t.line p = .undriven) ∧ t.trace = [] ∧ t.reports = []

/-- MODEL'S CHOICE, logs 3 and 4: State.reset is reset under REFCFG, with ALARM Disarmed, THRESH 0x00320000 and LIGHT
Dark. With the reference calibration REFCFG is accepted by R146, Q(celsius_real(raw)) being defined at each of its
valid codes; for every calibration of real numbers, construction gives the reset state for an accepted configuration
and refuses every other (the decision is an argument of the construction: the model's choice, log 20; that the
calibration leaves nothing in State but its tables is log 5); and some calibration meets, with REFCFG's tables,
every other constraint and is not accepted, since a temperature overflows Q. Rests on: 00_scope.md R7, R10;
42_conversion.md R143, R145, R146; 95_test_vectors.md Conventions. -/
def Obligations.StateResetIsTheReferenceConfiguration : Prop :=
  State.reset = State.resetWith refcfg ∧ State.reset.alarm = .disarmed ∧
    State.reset.thresh = 0x00320000 ∧ State.reset.light = .dark ∧ refcfg.wellFormed (refCalibration : Calibration ℝ) = true ∧
    refcfg.Accepted refCalibration ∧
    (∀ (cal : Calibration ℝ) (c : Config) [Decidable (c.Accepted cal)],
      State.construct cal c = if c.Accepted cal then .next (State.resetWith c) else .refused .illFormedConfig) ∧
    ∃ cal : Calibration ℝ, refcfg.wellFormed cal = true ∧ ¬ refcfg.Accepted cal

/-- ARM (CMD 00) answers, in every state, the same state with ALARM = Armed; while already Armed it is a no-op. Rests
on: R181. -/
def Obligations.ArmSetsAlarmOnly : Prop :=
  decode .cmd 0b00 = .ok .arm ∧
  ∀ s : State, exec .arm s = .next { s with alarm := .armed } ∧ (s.alarm = .armed → exec .arm s = .next s)

/-- DISARM (CMD 01) answers, in every state, the same state with ALARM = Disarmed; while already Disarmed it is a no-op;
the buzzer line is not written. Rests on: R182. -/
def Obligations.DisarmClearsAlarmOnly : Prop :=
  decode .cmd 0b01 = .ok .disarm ∧
  ∀ s : State, exec .disarm s = .next { s with alarm := .disarmed } ∧ (s.alarm = .disarmed → exec .disarm s = .next s)

/-- TOGGLE (CMD 10) answers, in every state, the same state with ALARM inverted; two in a row restore the state; ARM
then TOGGLE ends Disarmed, TOGGLE then ARM ends Armed. Rests on: R183. -/
def Obligations.ToggleInvertsAlarmOnly : Prop :=
  decode .cmd 0b10 = .ok .toggle ∧
  (∀ s : State, exec .toggle s = .next { s with alarm := if s.alarm = .armed then .disarmed else .armed }) ∧
  (∀ s t : State, exec .toggle s = .next t → exec .toggle t = .next s) ∧
  (∀ s t u : State, exec .arm s = .next t → exec .toggle t = .next u → u.alarm = .disarmed) ∧
  (∀ s t u : State, exec .toggle s = .next t → exec .arm t = .next u → u.alarm = .armed)

/-- STOP (CMD 11) answers, in every state, the same state with STOP_REQ = 1; a second one changes nothing; and no
operation that answers a next state takes STOP_REQ from 1 to 0: there is no way to withdraw a stop. Rests on: R200. -/
def Obligations.StopSetsStopReqOnly : Prop :=
  decode .cmd 0b11 = .ok .stop ∧
  (∀ s : State, exec .stop s = .next { s with stopReq := true } ∧ (s.stopReq = true → exec .stop s = .next s)) ∧
  ∀ (i : Instr) (s t : State), s.stopReq = true → exec i s = .next t → t.stopReq = true

/-- Whatever operation answers a next state, ALARM after it is the entry of the table of R187: Armed after ARM, Disarmed
after DISARM, inverted after TOGGLE, unchanged after STOP and after every operation of CTRL. Rests on: R187. -/
def Obligations.AlarmTransitionTable : Prop :=
  ∀ (i : Instr) (s t : State), exec i s = .next t →
    t.alarm = match i with
      | .arm => .armed
      | .disarm => .disarmed
      | .toggle => if s.alarm = .armed then .disarmed else .armed
      | _ => s.alarm

/-- In every state and phase, a step in which CMD presents the word w answers a next state with ALARM and STOP_REQ as
the command says, and the position, the datapath, BUZZ, SNAP, STATUS, every line and the trace unchanged. Rests on:
44_alarm.md R180, R186; 45_sampling_loop.md R200; 20_memory.md R66. -/
def Obligations.CommandsTouchOnlyTheLatches : Prop :=
  ∀ (s : State) (w : BitVec 2), s.eventAt 0 = .cmd w →
    ∃ t, step s = .next t ∧
      t.alarm = (if w = 0 then .armed else if w = 1 then .disarmed else
        if w = 2 then (if s.alarm = .armed then .disarmed else .armed) else s.alarm) ∧
      t.stopReq = (s.stopReq || w = 3) ∧
      SamePosition s t ∧ SameSamples s t ∧ SameReading s t ∧ SameStatus s t ∧ SamePort s t ∧ SameOutside s t ∧
      t.snap = s.snap ∧ t.result = s.result

/-- After every step that is not a reset, STOP_REQ is 1 exactly when it was 1 or the step was the command STOP. Rests
on: 10_state.md section 5 (R35); 45_sampling_loop.md R200. -/
def Obligations.StopReqIsSticky : Prop :=
  ∀ s t : State, s.eventAt 0 ≠ .reset → step s = .next t →
    (t.stopReq = true ↔ s.stopReq = true ∨ s.eventAt 0 = .cmd 3)

/-- In a phase that is not terminal, SET_LINE p,l answers a next state in which exactly that port operation has been
issued. On Ok the line p has level l, the position is the next one of R30, and where that position is STOPPED (after
SHUTDOWN's last micro-step) STATUS.RUN becomes 1, the rest of STATUS as it was, and otherwise STATUS is unchanged;
on IoFault the line is unknown and the fault entry of R225 has been made. No other register changes. (That the entry
into STOPPED, and so the write of RUN that R202 gives SHUTDOWN and R37 gives the phase, belongs to the advance of
SET_LINE on its own, though R111 names no such write, is the model's choice, log 9; so is that in a phase without
port operations the position stays. At UPC beyond the range of the phase the advance is the model's choice, log 25.)
Rests on: 40_port_ops.md R111; 10_state.md R30, R37, R41; 45_sampling_loop.md R202; 60_exceptions.md R225. -/
def Obligations.SetLineResult : Prop :=
  ∀ (p : OutPin) (l : Level) (s : State), s.halted = false →
    ∃ t, exec (.setLine p l) s = .next t ∧ OnePortOp s t (.set p l) (s.answerAt 0) ∧
      (∀ b, s.answerAt 0 = .ok b → (t.phase, t.upc) = nextPosition s.phase s.upc ∧ t.reports = s.reports ∧
        t.status = if t.phase = .stopped then statusWithRun s.status 1 else s.status) ∧
      (s.answerAt 0 = .ioFault → EnteredFault s t .ioFault (popWord (.set p l)) s.phase s.upc) ∧
      SameOutside s t ∧ SameSamples s t ∧ SameReading s t ∧ SameLatches s t ∧ t.snap = s.snap ∧ t.result = s.result

/-- In a phase that is not terminal, READ_LINE DOUT answers a next state in which exactly that port operation has been
issued, no line changed. On Ok(b) the bit b is delivered, ACC is ACC shifted left with b in READ_T and READ_A and
unchanged in the other phases, and the position is the next one of R30; where that is STOPPED (after SHUTDOWN's last
micro-step) STATUS.RUN becomes 1, the rest of STATUS as it was, and otherwise STATUS is unchanged; on IoFault the
fault entry has been made and ACC is unchanged. No other register changes. (Where the delivered bit is kept is the
model's own, log 12; that ACC is shifted at every row of READ_T and READ_A, the rows other than 14, 17, ..., 35
among them, that it is not in the other phases, the position in a phase that issues no read, and the write of RUN
with the entry into STOPPED are the model's choice, log 9; at UPC beyond the range of the phase, log 25.) Rests on:
40_port_ops.md R112; 41_adc_read.md R126; 10_state.md R30, R37; 45_sampling_loop.md R202; 60_exceptions.md R225. -/
def Obligations.ReadLineResult : Prop :=
  ∀ (p : InPin) (s : State), s.halted = false →
    ∃ t, exec (.readLine p) s = .next t ∧ OnePortOp s t (.read p) (s.answerAt 0) ∧
      (∀ b, s.answerAt 0 = .ok b → t.result = .bit b ∧ (t.phase, t.upc) = nextPosition s.phase s.upc ∧
        t.acc = (if s.phase = .readT ∨ s.phase = .readA then (s.acc <<< 1) ||| BitVec.zeroExtend 8 (BitVec.ofBool b)
          else s.acc) ∧
        t.reports = s.reports ∧ t.status = if t.phase = .stopped then statusWithRun s.status 1 else s.status) ∧
      (s.answerAt 0 = .ioFault → t.result = s.result ∧ t.acc = s.acc ∧ EnteredFault s t .ioFault 0x14 s.phase s.upc) ∧
      SameOutside s t ∧ t.ch = s.ch ∧ t.rawT = s.rawT ∧ t.rawA = s.rawA ∧ SameReading s t ∧ SameLatches s t ∧ t.snap = s.snap

/-- For SET_LINE, READ_LINE, READ_T, READ_A, DRIVE and SHUTDOWN in a phase that is not terminal: if PORT answers IoFault
to the port operation op the operation issues, the next state is FAULTED with RUN 2, FCODE 1, FOP the POP word of
op, FPHASE and FUPC the position of the step, one more report of the same four fields; op's own line is unknown; and
every other register, SNAP and the latches are unchanged. (ACC unchanged where row 0 of a transaction itself faults
is the model's reading, log 7; an operation in a phase that is not its own is the model's choice, logs 9 and 11; a
read phase with another channel in CH than R193 or R194 gives it is log 24; at UPC beyond the range of the phase,
log 25.) Rests on: 60_exceptions.md sections 1 and 3 (R220, R221, R225, R232); 45_sampling_loop.md R207. -/
def Obligations.IoFaultEntry : Prop :=
  ∀ (i : Instr) (s : State) (op : PortOp), s.halted = false → portOpOf s i = some op → s.answerAt 0 = .ioFault →
    ∃ t, exec i s = .next t ∧ EnteredFault s t .ioFault (popWord op) s.phase s.upc ∧ OnePortOp s t op .ioFault ∧
      SameOutside s t ∧ SameSamples s t ∧ SameReading s t ∧ SameLatches s t ∧ t.snap = s.snap ∧ t.result = s.result

/-- After every step that is not a reset, the trace is unchanged, or has exactly one entry more at its end and one
answer of PORT has been used. Rests on: 40_port_ops.md R113; 20_memory.md R65; 10_state.md R31. -/
def Obligations.AtMostOnePortOperationPerStep : Prop :=
  ∀ s t : State, s.eventAt 0 ≠ .reset → step s = .next t →
    (t.trace = s.trace ∧ ∀ k, t.answerAt k = s.answerAt k) ∨
    ∃ e, t.trace = s.trace ++ [e] ∧ ∀ k, t.answerAt k = s.answerAt (k + 1)

/-- For each channel, the POP words of the 37 micro-steps are those of the table, with 02 or 03 at row 9 for channel 0
or 1. Rests on: 41_adc_read.md R123; 30_encoding.md R98; 40_port_ops.md R114. -/
def Obligations.TransactionTable : Prop :=
  ∀ c : Channel, (adcProgram c).map popWord = transactionWords c ∧ (transactionWords c).length = 37

/-- For every ch of 2 or more, in a phase that is not terminal, ADC_READ ch issues no port operation, leaves ACC, CH,
every line and every other register, and enters FAULTED with FCODE 3, FOP 0, FPHASE the phase and FUPC 0. In
particular ch is not reduced modulo 2. Rests on: 41_adc_read.md R121; 60_exceptions.md R220, R225, R228. -/
def Obligations.InvalidChannelIsRejected : Prop :=
  ∀ (ch : Nat) (s : State), 2 ≤ ch → s.halted = false →
    ∃ t, exec (.adcRead ch) s = .next t ∧ EnteredFault s t .invalidChannel 0 s.phase 0 ∧ SamePort s t ∧
      SameOutside s t ∧ SameSamples s t ∧ SameReading s t ∧ SameLatches s t ∧ t.snap = s.snap ∧ t.result = s.result

/-- If PORT answers Ok to the next 37 port operations, ADC_READ c answers a next state whose trace has grown by exactly
the 37 rows of R123, with ACC and the result equal to the bits read, the i-th read being bit 7 - i; LINE[CS] = 1,
LINE[CLK] = 0, LINE[DIN] = CH, LINE[BUZ] unchanged; CH = c; RAW_T, RAW_A, the registers of EVAL, the latches,
STATUS, SNAP and PHASE unchanged. (A call of the driver as one exec, and UPC after it, are the model's choice, log
8; that the result is kept in a field is log 12.) Rests on: 41_adc_read.md R120, R123, R126, R128, R131;
30_encoding.md R93. -/
def Obligations.AdcReadCompletes : Prop :=
  ∀ (c : Channel) (s : State) (bits : Nat → Level), s.halted = false → AnswersOk s 37 bits →
    ∃ t, exec (.adcRead (channelBit c).toNat) s = .next t ∧
      t.trace = s.trace ++ okTrace (adcProgram c) bits ∧ (okTrace (adcProgram c) bits).map TraceEntry.word = transactionWords c ∧
      t.acc = sampleOfBits (readBits (adcProgram c) bits) ∧ t.result = .sample t.acc ∧
      (∀ i, i < 8 → t.acc.getLsbD (7 - i) = bits (14 + 3 * i)) ∧
      t.lines.cs = .driven true ∧ t.lines.clk = .driven false ∧ t.lines.din = .driven (channelBit c) ∧
      t.lines.buz = s.lines.buz ∧ t.ch = c ∧ t.rawT = s.rawT ∧ t.rawA = s.rawA ∧ t.phase = s.phase ∧
      SameReading s t ∧ SameLatches s t ∧ SameStatus s t ∧ SameOutside s t ∧ t.snap = s.snap ∧
      ∀ k, t.answerAt k = s.answerAt (k + 37)

/-- If PORT answers Ok to the first u port operations of ADC_READ c (u below 37) and IoFault to the next, exactly the
rows 0 to u have been issued, FAULTED is entered with FOP the word of row u and FUPC = u, no result is returned,
RAW_T and RAW_A are unchanged, and LINE[CS] is unknown for u 0, 1, 36 and low for u 2 to 35. (A call of the driver
as one exec is the model's choice, log 8; ACC at such a fault is log 7 and is not stated.) Rests on: 41_adc_read.md
R129; 60_exceptions.md R225. -/
def Obligations.AdcReadAbandonedAtFirstIoFault : Prop :=
  ∀ (c : Channel) (s : State) (bits : Nat → Level) (u : Nat), s.halted = false → u < 37 → AnswersOk s u bits →
    s.answerAt u = .ioFault →
    ∃ t op, (adcProgram c)[u]? = some op ∧ exec (.adcRead (channelBit c).toNat) s = .next t ∧
      t.trace = s.trace ++ okTrace ((adcProgram c).take u) bits ++ [⟨popWord op, .ioFault⟩] ∧
      EnteredFault s t .ioFault (popWord op) s.phase (BitVec.ofNat 6 u) ∧
      t.lines.cs = (if u = 0 ∨ u = 1 ∨ u = 36 then .unknown else .driven false) ∧ t.lines.buz = s.lines.buz ∧
      t.result = s.result ∧ t.rawT = s.rawT ∧ t.rawA = s.rawA ∧
      SameReading s t ∧ SameLatches s t ∧ SameOutside s t ∧ t.snap = s.snap

/-- Two states, whatever their ACC, lines, registers and traces, in which PORT gives the same 37 answers Ok, end
ADC_READ c with the same ACC, the same result and the same levels on CS, CLK and DIN. (A call of the driver as one
exec, and UPC after it, are the model's choice, log 8; that the result is kept in a field is log 12.) Rests on:
41_adc_read.md R133; 10_state.md R21. -/
def Obligations.AdcReadIndependentOfHistory : Prop :=
  ∀ (c : Channel) (s s' : State) (bits : Nat → Level), s.halted = false → s'.halted = false →
    AnswersOk s 37 bits → AnswersOk s' 37 bits →
    ∃ t t', exec (.adcRead (channelBit c).toNat) s = .next t ∧ exec (.adcRead (channelBit c).toNat) s' = .next t' ∧
      t.acc = t'.acc ∧ t.result = t'.result ∧ t.lines.cs = t'.lines.cs ∧ t.lines.clk = t'.lines.clk ∧
      t.lines.din = t'.lines.din

/-- If PORT answers Ok to the next 37 port operations and the k-th data-phase read returns bit 7 - k of the code,
ADC_READ returns the code, for every code from 0 to 255. (A call of the driver as one exec, and UPC after it, are
the model's choice, log 8; that the result is kept in a field is log 12.) Rests on: 20_memory.md section 4 (R68);
41_adc_read.md R128. -/
def Obligations.IdealConverterGivesItsCode : Prop :=
  ∀ (c : Channel) (s : State) (code : RawSample) (bits : Nat → Level), s.halted = false → AnswersOk s 37 bits →
    ConverterSends s code →
    ∃ t, exec (.adcRead (channelBit c).toNat) s = .next t ∧ t.acc = code ∧ t.result = .sample code

/-- For READ_T and READ_A, in a phase that is not terminal, at UPC below 36 with PORT answering Ok(b): exactly the port
operation of row UPC for channel CH is issued; UPC goes up by one and the phase stays; ACC becomes 0 at row 0, ACC
shifted left with b at rows 14, 17, ..., 35, and is unchanged at the others; nothing else changes. (READ_T outside
the phase READ_T and READ_A outside READ_A are the model's choice, log 11; the channel is CH, whatever it holds: log
24.) Rests on: 41_adc_read.md R123, R126; 45_sampling_loop.md R193, R194; 10_state.md R31. -/
def Obligations.ReadPhaseMicroStep : Prop :=
  ∀ (i : Instr) (s : State) (b : Level), i = .readT ∨ i = .readA → s.halted = false → s.upc.toNat < 36 →
    s.answerAt 0 = .ok b →
    ∃ t op, exec i s = .next t ∧ (transactionWords s.ch)[s.upc.toNat]? = some (popWord op) ∧ OnePortOp s t op (.ok b) ∧
      t.phase = s.phase ∧ t.upc = s.upc + 1 ∧
      t.acc = (if s.upc.toNat = 0 then (0 : BitVec 8)
        else if 14 ≤ s.upc.toNat ∧ s.upc.toNat % 3 = 2 then (s.acc <<< 1) ||| BitVec.zeroExtend 8 (BitVec.ofBool b)
        else s.acc) ∧
      t.ch = s.ch ∧ t.rawT = s.rawT ∧ t.rawA = s.rawA ∧ SameReading s t ∧ SameLatches s t ∧ SameStatus s t ∧
      SameOutside s t ∧ t.snap = s.snap ∧ t.result = s.result

/-- At UPC = 36, in a phase that is not terminal, with PORT answering Ok: both read phases issue SET_LINE CS,1; READ_T
sets RAW_T to ACC, CH to 1 - TEMP_CHANNEL and goes to (READ_A, 0); READ_A sets RAW_A to ACC and goes to (EVAL, 0);
nothing else changes. (READ_T outside the phase READ_T and READ_A outside READ_A are the model's choice, log 11;
that CH is not looked at is log 24.) Rests on: 45_sampling_loop.md R193, R194; 41_adc_read.md R127. -/
def Obligations.ReadPhasesDeliverTheirSample : Prop :=
  ∀ (s : State) (b : Level), s.halted = false → s.upc = 36 → s.answerAt 0 = .ok b →
    (∃ t, exec .readT s = .next t ∧ OnePortOp s t (.set .cs true) (.ok b) ∧ t.rawT = s.acc ∧
      t.ch = otherChannel s.cfg.tempChannel ∧ t.phase = .readA ∧ t.upc = 0 ∧ t.acc = s.acc ∧ t.rawA = s.rawA ∧
      SameReading s t ∧ SameLatches s t ∧ SameStatus s t ∧ SameOutside s t ∧ t.snap = s.snap ∧ t.result = s.result) ∧
    (∃ t, exec .readA s = .next t ∧ OnePortOp s t (.set .cs true) (.ok b) ∧ t.rawA = s.acc ∧
      t.phase = .eval ∧ t.upc = 0 ∧ t.acc = s.acc ∧ t.ch = s.ch ∧ t.rawT = s.rawT ∧
      SameReading s t ∧ SameLatches s t ∧ SameStatus s t ∧ SameOutside s t ∧ t.snap = s.snap ∧ t.result = s.result)

/-- MODEL'S STOP, log 15: in a phase that is not terminal, READ_T and READ_A at UPC above 36 and SHUTDOWN at UPC above 3
end in the fault noMicroStep; R31 says such a position is never reached. (The operation in a phase that is not its
own is the model's choice, log 11.) Rests on: 10_state.md section 3 (R30, R31). -/
def Obligations.PhasesBeyondTheirTableStop : Prop :=
  ∀ s : State, s.halted = false →
    (36 < s.upc.toNat → exec .readT s = .fault .noMicroStep ∧ exec .readA s = .fault .noMicroStep) ∧
    (3 < s.upc.toNat → exec .shutdown s = .fault .noMicroStep)

/-- From (READ_T, 0) or (READ_A, 0), if CTRL has the next 37 turns and PORT answers them Ok, 37 steps of the machine
issue exactly the 37 rows of R123 for channel CH. From READ_T they set RAW_T to the bits read and CH to 1 -
TEMP_CHANNEL and reach (READ_A, 0), RAW_A unchanged; from READ_A they set RAW_A to the bits read and reach (EVAL,
0), RAW_T and CH unchanged. ACC holds the bits read; the registers of EVAL, the latches, STATUS and SNAP are
unchanged. (CH other than the channel R193 or R194 gives the phase is the model's choice, log 24.) Rests on:
45_sampling_loop.md R192, R193, R194; 10_state.md R32; 41_adc_read.md R120. -/
def Obligations.ReadTransactionTakes37Steps : Prop :=
  (∀ (s : State) (bits : Nat → Level), s.phase = .readT → s.upc = 0 → (∀ k, k < 37 → s.eventAt k = .ctrl) →
    AnswersOk s 37 bits →
    ∃ t, Host.Core.run Sys2Proof.core 37 s = .next t ∧ t.phase = .readA ∧ t.upc = 0 ∧
      t.trace = s.trace ++ okTrace (adcProgram s.ch) bits ∧ t.acc = t.rawT ∧
      t.rawT = sampleOfBits (readBits (adcProgram s.ch) bits) ∧ t.rawA = s.rawA ∧
      t.ch = otherChannel s.cfg.tempChannel ∧
      SameReading s t ∧ SameLatches s t ∧ SameStatus s t ∧ SameOutside s t ∧ t.snap = s.snap) ∧
  ∀ (s : State) (bits : Nat → Level), s.phase = .readA → s.upc = 0 → (∀ k, k < 37 → s.eventAt k = .ctrl) →
    AnswersOk s 37 bits →
    ∃ t, Host.Core.run Sys2Proof.core 37 s = .next t ∧ t.phase = .eval ∧ t.upc = 0 ∧
      t.trace = s.trace ++ okTrace (adcProgram s.ch) bits ∧ t.acc = t.rawA ∧
      t.rawA = sampleOfBits (readBits (adcProgram s.ch) bits) ∧ t.rawT = s.rawT ∧ t.ch = s.ch ∧
      SameReading s t ∧ SameLatches s t ∧ SameStatus s t ∧ SameOutside s t ∧ t.snap = s.snap

/-- From IDLE with no stop requested, if TIMER then 77 times CTRL has the turn and PORT answers Ok to 75 port
operations, 78 steps issue exactly the transaction on TEMP_CHANNEL, the transaction on the other channel and
SET_LINE BUZ, BUZZ; they end in IDLE with RAW_T and RAW_A the samples, ALARM_SEEN = ALARM, and SNAP holding LIGHT,
BUZZ, ALARM_SEEN, TEMP_VALID, TEMP (0 while there is none) and THRESH. Rests on: 45_sampling_loop.md R192, R199,
R206. -/
def Obligations.FaultFreeCycleTakes78Steps : Prop :=
  ∀ (s : State) (bits : Nat → Level), s.phase = .idle → s.stopReq = false → s.eventAt 0 = .tick →
    (∀ k, 0 < k → k < 78 → s.eventAt k = .ctrl) → AnswersOk s 75 bits →
    ∃ t, Host.Core.run Sys2Proof.core 78 s = .next t ∧ t.phase = .idle ∧ t.upc = 0 ∧
      t.trace = s.trace ++ okTrace (adcProgram s.cfg.tempChannel ++ adcProgram (otherChannel s.cfg.tempChannel) ++
        [.set .buz (buzzerBit t.buzz)]) bits ∧
      t.rawT = sampleOfBits (readBits (adcProgram s.cfg.tempChannel) bits) ∧
      t.rawA = sampleOfBits (readBits (adcProgram (otherChannel s.cfg.tempChannel)) fun k => bits (k + 37)) ∧
      t.alarmSeen = s.alarm ∧ snapLight t.snap = lightBit t.light ∧ snapBuzzerOn t.snap = buzzerBit t.buzz ∧
      snapAlarmState t.snap = alarmBit t.alarmSeen ∧ snapTempValid t.snap = t.tempValid ∧
      snapTemperature t.snap = (if t.tempValid then t.temp else 0) ∧ snapThreshold t.snap = t.thresh ∧
      SameLatches s t ∧ SameStatus s t ∧ SameOutside s t

/-- In a phase that is not terminal each of the three answers a next state equal to the old one but for the value
delivered: CONV_TEMP the datum of TEMP_ROM[RAW_T], or ConversionFault exactly when its valid bit is 0; CONV_THRESH
the entry THRESH_ROM[RAW_A]; CONV_LIGHT Light exactly when RAW_A is below LIGHT_CUT. (Where the delivered value is
kept is the model's own, log 12; a conversion in a phase other than EVAL is the model's choice, log 11; at UPC
beyond the range of the phase, log 25.) Rests on: 42_conversion.md R140, R148, R153, R155. -/
def Obligations.ConversionsDeliverTheirValue : Prop :=
  ∀ s : State, s.halted = false →
    (∀ e, s.cfg.tempRom[s.rawT.toNat]? = some e →
      exec .convTemp s = .next { s with result := .temp (if e.valid then .ok e.q else .conversionFault) }) ∧
    (∀ q, s.cfg.threshRom[s.rawA.toNat]? = some q → exec .convThresh s = .next { s with result := .thresh q }) ∧
    (s.rawA.toNat < s.cfg.lightCut → exec .convLight s = .next { s with result := .light .light }) ∧
    (s.cfg.lightCut ≤ s.rawA.toNat → exec .convLight s = .next { s with result := .light .dark })

/-- In a phase that is not terminal DECIDE answers the same state but for BUZZ, which is On exactly when ALARM_SEEN is
Armed, TEMP_VALID is 1 and TEMP is greater than THRESH as signed integers. DECIDE's only word is that of EVAL, where
it reads the ALARM of that step and the reading after that step's own update. (DECIDE and EVAL in a phase other than
EVAL are the model's choice, log 11; at UPC beyond the range of the phase, log 25.) Rests on: 44_alarm.md R184;
45_sampling_loop.md R195. -/
def Obligations.DecideIsStrictAndSigned : Prop :=
  encode .decide = (.phase, 3) ∧ decode .phase 3 = .ok .eval ∧
  (∀ s : State, s.halted = false →
    ∃ t, exec .decide s = .next t ∧ t = { s with buzz := t.buzz } ∧
      (t.buzz = .on ↔ s.alarmSeen = .armed ∧ s.tempValid = true ∧ s.thresh.toInt < s.temp.toInt)) ∧
  ∀ s : State, s.halted = false →
    ∃ t, exec .eval s = .next t ∧ t.alarmSeen = s.alarm ∧
      (t.buzz = .on ↔ t.alarmSeen = .armed ∧ t.tempValid = true ∧ t.thresh.toInt < t.temp.toInt)

/-- In IDLE: with STOP_REQ = 0, CYCLE_START answers the same state with CH = TEMP_CHANNEL at (READ_T, 0); with STOP_REQ
= 1 the same state at (SHUTDOWN, 0). Outside IDLE it changes nothing. (CYCLE_START outside IDLE is the model's
choice, log 11; that with a stop requested its step is the entry into SHUTDOWN is the model's choice, log 19; at UPC
beyond the range of the phase, log 25.) Rests on: 45_sampling_loop.md R191, R201. -/
def Obligations.CycleStartLoadsTheThermistorChannel : Prop :=
  ∀ s : State,
    (s.phase = .idle → s.stopReq = false →
      exec .cycleStart s = .next { s with ch := s.cfg.tempChannel, phase := .readT, upc := 0 }) ∧
    (s.phase = .idle → s.stopReq = true → exec .cycleStart s = .next { s with phase := .shutdown, upc := 0 }) ∧
    (s.phase ≠ .idle → exec .cycleStart s = .next s)

/-- In IDLE with STOP_REQ = 1, a turn of CTRL and a permission of TIMER alike lead to (SHUTDOWN, 0), no cycle starts,
and every register but the position is unchanged. (That a turn of CTRL and a permission lead there alike is the
model's choice, log 19; at UPC beyond the range of the phase, log 25.) Rests on: 45_sampling_loop.md R201;
60_exceptions.md R233. -/
def Obligations.StopWinsInIdle : Prop :=
  ∀ s : State, s.phase = .idle → s.stopReq = true → (s.eventAt 0 = .ctrl ∨ s.eventAt 0 = .tick) →
    ∃ t, step s = .next t ∧ t.phase = .shutdown ∧ t.upc = 0 ∧ SameSamples s t ∧ SameReading s t ∧ SameLatches s t ∧
      SameStatus s t ∧ SamePort s t ∧ SameOutside s t ∧ t.snap = s.snap

/-- In a phase that is not terminal, if TEMP_ROM[RAW_T] is valid with datum q and THRESH_ROM[RAW_A] is h, EVAL sets TEMP
= q, TEMP_VALID = 1, THRESH = h, LIGHT by the cut, ALARM_SEEN = ALARM, BUZZ On exactly when ALARM is Armed and q > h
signed, goes to (DRIVE, 0), issues no port operation, and leaves the rest. (EVAL in a phase other than EVAL is the
model's choice, log 11; at UPC beyond the range of the phase, log 25.) Rests on: 45_sampling_loop.md R195;
42_conversion.md R148, R153, R155; 44_alarm.md R184. -/
def Obligations.EvalStoresAValidReading : Prop :=
  ∀ (s : State) (q h : Q1516), s.halted = false → s.cfg.tempRom[s.rawT.toNat]? = some ⟨true, q⟩ →
    s.cfg.threshRom[s.rawA.toNat]? = some h →
    ∃ t, exec .eval s = .next t ∧ t.temp = q ∧ t.tempValid = true ∧ t.thresh = h ∧
      (t.light = .light ↔ s.rawA.toNat < s.cfg.lightCut) ∧ t.alarmSeen = s.alarm ∧
      (t.buzz = .on ↔ s.alarm = .armed ∧ h.toInt < q.toInt) ∧ t.phase = .drive ∧ t.upc = 0 ∧
      SameSamples s t ∧ SameLatches s t ∧ SameStatus s t ∧ SamePort s t ∧ SameOutside s t ∧ t.snap = s.snap ∧
      t.result = s.result

/-- In a phase that is not terminal, if TEMP_ROM[RAW_T] is invalid, EVAL leaves TEMP, TEMP_VALID, THRESH and STATUS as
they are, and still sets LIGHT from RAW_A, ALARM_SEEN = ALARM and BUZZ from the retained values (Off if no
temperature was ever valid), and goes to (DRIVE, 0); no report is emitted. (EVAL in a phase other than EVAL is the
model's choice, log 11; at UPC beyond the range of the phase, log 25.) Rests on: 45_sampling_loop.md R196, R197;
60_exceptions.md R227; 10_state.md R24 to R26. -/
def Obligations.EvalKeepsTheReadingOnConversionFault : Prop :=
  ∀ (s : State) (q : Q1516), s.halted = false → s.cfg.tempRom[s.rawT.toNat]? = some ⟨false, q⟩ →
    ∃ t, exec .eval s = .next t ∧ t.temp = s.temp ∧ t.tempValid = s.tempValid ∧ t.thresh = s.thresh ∧
      (t.light = .light ↔ s.rawA.toNat < s.cfg.lightCut) ∧ t.alarmSeen = s.alarm ∧
      (t.buzz = .on ↔ s.alarm = .armed ∧ s.tempValid = true ∧ s.thresh.toInt < s.temp.toInt) ∧
      t.phase = .drive ∧ t.upc = 0 ∧
      SameSamples s t ∧ SameLatches s t ∧ SameStatus s t ∧ SamePort s t ∧ SameOutside s t ∧ t.snap = s.snap ∧
      t.result = s.result

/-- In a phase that is not terminal, with PORT answering Ok, DRIVE issues exactly SET_LINE BUZ,1 if BUZZ is On and
SET_LINE BUZ,0 if it is Off (POP 09 or 08), goes to (PUBLISH, 0), and changes nothing else. (DRIVE in a phase other
than DRIVE is the model's choice, log 11; at UPC beyond the range of the phase, log 25.) Rests on:
45_sampling_loop.md R198; 30_encoding.md R92. -/
def Obligations.DriveWritesTheBuzzerLine : Prop :=
  ∀ (s : State) (b : Level), s.halted = false → s.answerAt 0 = .ok b →
    ∃ t l, exec .drive s = .next t ∧ (s.buzz = .on → l = true ∧ popWord (.set .buz l) = 0x09) ∧
      (s.buzz = .off → l = false ∧ popWord (.set .buz l) = 0x08) ∧ OnePortOp s t (.set .buz l) (.ok b) ∧
      t.phase = .publish ∧ t.upc = 0 ∧ SameSamples s t ∧ SameReading s t ∧ SameLatches s t ∧ SameStatus s t ∧
      SameOutside s t ∧ t.snap = s.snap ∧ t.result = s.result

/-- In a phase that is not terminal PUBLISH answers the same state at (IDLE, 0) with SNAP's fields copies of LIGHT,
BUZZ, ALARM_SEEN, TEMP_VALID and THRESH and the temperature field TEMP, or 0 while TEMP_VALID is 0. (PUBLISH in a
phase other than PUBLISH is the model's choice, log 11; at UPC beyond the range of the phase, log 25.) Rests on:
45_sampling_loop.md R199; 10_state.md R36. -/
def Obligations.PublishRewritesTheSnapshot : Prop :=
  ∀ s : State, s.halted = false →
    ∃ t, exec .publish s = .next t ∧ t = { s with phase := .idle, upc := 0, snap := t.snap } ∧
      snapLight t.snap = lightBit s.light ∧ snapBuzzerOn t.snap = buzzerBit s.buzz ∧
      snapAlarmState t.snap = alarmBit s.alarmSeen ∧ snapTempValid t.snap = s.tempValid ∧
      snapTemperature t.snap = (if s.tempValid then s.temp else 0) ∧ snapThreshold t.snap = s.thresh

/-- In a phase that is not terminal, at UPC 0 to 3 with PORT answering Ok, SHUTDOWN issues exactly the UPC-th of
SET_LINE BUZ,0; CS,1; CLK,0; DIN,0; below UPC 3 it goes to the next micro-step; at UPC 3 it goes to (STOPPED, 0)
with STATUS.RUN = 1 and the other fields of STATUS kept; SNAP and every other register is unchanged. (SHUTDOWN in a
phase other than SHUTDOWN, where that phase stays below UPC 3, is the model's choice, log 11.) Rests on:
45_sampling_loop.md R202. -/
def Obligations.ShutdownParksTheLines : Prop :=
  ∀ (s : State) (b : Level), s.halted = false → s.upc.toNat ≤ 3 → s.answerAt 0 = .ok b →
    ∃ t op, exec .shutdown s = .next t ∧ ([0x08, 0x07, 0x00, 0x02] : List (BitVec 5))[s.upc.toNat]? = some (popWord op) ∧
      OnePortOp s t op (.ok b) ∧
      (s.upc.toNat < 3 → t.phase = s.phase ∧ t.upc = s.upc + 1 ∧ t.status = s.status) ∧
      (s.upc.toNat = 3 → t.phase = .stopped ∧ t.upc = 0 ∧ statusRun t.status = 1 ∧
        statusFcode t.status = statusFcode s.status ∧ statusFop t.status = statusFop s.status ∧
        statusFphase t.status = statusFphase s.status ∧ statusFupc t.status = statusFupc s.status) ∧
      t.reports = s.reports ∧ SameSamples s t ∧ SameReading s t ∧ SameLatches s t ∧ SameOutside s t ∧ t.snap = s.snap ∧
      t.result = s.result

/-- Whatever operation other than PUBLISH answers a next state, SNAP is unchanged; and a step that is no reset, taken
while PHASE is not PUBLISH, leaves SNAP unchanged (fault entry, shutdown and commands included). Rests on:
10_state.md R36; 45_sampling_loop.md R199; 70_reset_and_hazards.md R275. -/
def Obligations.OnlyPublishWritesTheSnapshot : Prop :=
  (∀ (i : Instr) (s t : State), i ≠ .publish → exec i s = .next t → t.snap = s.snap) ∧
  (∀ s t : State, s.eventAt 0 ≠ .reset → s.phase ≠ .publish → step s = .next t → t.snap = s.snap)

/-- If an operation changes TEMP, TEMP_VALID or THRESH, it is EVAL and the entry TEMP_ROM[RAW_T] is valid; and no step
but a reset takes TEMP_VALID from 1 to 0. Rests on: 10_state.md R24, R25, R33; 45_sampling_loop.md R196. -/
def Obligations.OnlyASuccessfulEvalWritesTheReading : Prop :=
  (∀ (i : Instr) (s t : State), exec i s = .next t →
    (t.temp ≠ s.temp ∨ t.tempValid ≠ s.tempValid ∨ t.thresh ≠ s.thresh) →
    i = .eval ∧ conversionFaulted (convTemp s.cfg s.rawT) = false) ∧
  (∀ s t : State, s.eventAt 0 ≠ .reset → step s = .next t → s.tempValid = true → t.tempValid = true)

/-- In STOPPED or FAULTED, a step that is not a reset answers a next state with the same position, STATUS and reports,
no port operation, and every register but ALARM and STOP_REQ unchanged, these two also unless the event is a
command; and every operation of CTRL leaves the whole state unchanged there. (That such an operation answers the
same state, where the spec enables none, is the model's reading, log 10; that a turn without an enabled step is a
step is the model's choice, log 19.) Rests on: 45_sampling_loop.md R203; 60_exceptions.md R226, R230; 44_alarm.md
R180. -/
def Obligations.TerminalPhasesAreLeftByResetOnly : Prop :=
  (∀ s : State, (s.phase = .stopped ∨ s.phase = .faulted) → s.eventAt 0 ≠ .reset →
    ∃ t, step s = .next t ∧ SamePosition s t ∧ SameStatus s t ∧ SamePort s t ∧ SameSamples s t ∧ SameReading s t ∧
      t.snap = s.snap ∧ t.cfg = s.cfg ∧ ((∀ w, s.eventAt 0 ≠ .cmd w) → SameLatches s t)) ∧
  (∀ (i : Instr) (s : State), (s.phase = .stopped ∨ s.phase = .faulted) → isCommand i = false → exec i s = .next s)

/-- If a step that is not a reset changes LINE[BUZ], it was CTRL's turn in the phase DRIVE, or in SHUTDOWN at UPC 0.
Rests on: 45_sampling_loop.md R205; 44_alarm.md R182, R186. -/
def Obligations.BuzzerLineChangesAtDriveOrShutdownOnly : Prop :=
  ∀ s t : State, s.eventAt 0 ≠ .reset → step s = .next t → t.lines.buz ≠ s.lines.buz →
    s.eventAt 0 = .ctrl ∧ (s.phase = .drive ∨ (s.phase = .shutdown ∧ s.upc = 0))

/-- After every step that is not a reset, the reports are the old ones, or the old ones and exactly one more, of code
IoFault, and then the phase is FAULTED: the loop never raises InvalidChannel, and ConversionFault is not reported.
Rests on: 60_exceptions.md R223, R227, R232; 41_adc_read.md R121. -/
def Obligations.TheLoopReportsOnlyIoFaults : Prop :=
  ∀ s t : State, s.eventAt 0 ≠ .reset → step s = .next t →
    t.reports = s.reports ∨ ∃ r, t.reports = s.reports ++ [r] ∧ r.code = .ioFault ∧ s.phase ≠ .faulted ∧ t.phase = .faulted

/-- If UPC is at most 36 in READ_T and READ_A, at most 3 in SHUTDOWN and 0 elsewhere, it is so after every step; and if
CH is TEMP_CHANNEL in READ_T and the other channel in READ_A, it is so after every step. (Tier 3, an invariant every
step keeps, from every state that has it.) Rests on: 10_state.md section 3 (R30, R31); 45_sampling_loop.md R191,
R193, R194. -/
def Obligations.StepKeepsThePositionLegal : Prop :=
  ∀ s t : State, step s = .next t → (PositionLegal s → PositionLegal t) ∧ (ChannelLegal s → ChannelLegal t)

/-- Outside FAULTED STATUS is RUN alone (0 RUNNING, 1 STOPPED) and nothing has been reported; in FAULTED it holds RUN 2
and the record of the one report, which is of a fatal fault. (That reset empties the trace and the reports is the
model's choice, logs 16 and 18.) (Tier 3, an invariant every step keeps, from every state that has it.) Rests on:
10_state.md section 5 (R37); 60_exceptions.md R225, R232. -/
def Obligations.StepKeepsStatusTrue : Prop :=
  ∀ s t : State, StatusLegal s → step s = .next t → StatusLegal t

/-- Every operation and every step that answers a next state keeps CONFIG, from every state (at a run-time reset this is
the model's reading, log 18). So under every calibration of real numbers with which the configuration is well
formed, Q(THRESH_MIN) <= THRESH <= Q(THRESH_MAX) in the register and in SNAP, before and after every step, and the
configuration stays well formed. (Tier 3, an invariant every step keeps, from every state that has it.) Rests on:
10_state.md R25, R38, R39; 45_sampling_loop.md R204; 42_conversion.md R152. -/
def Obligations.StepKeepsTheThresholdInRange : Prop :=
  (∀ (i : Instr) (s t : State), exec i s = .next t → t.cfg = s.cfg) ∧
  (∀ s t : State, step s = .next t → t.cfg = s.cfg) ∧
  ∀ (cal : Calibration ℝ) (s t : State), s.cfg.wellFormed cal = true → ThreshLegal cal s → step s = .next t →
    t.cfg.wellFormed cal = true ∧ ThreshLegal cal t

/-- In SNAP, buzzer_on is 1 exactly when alarm_state and temp_valid are 1 and temperature is greater than threshold
signed, and the temperature reads 0 while there is none; in DRIVE and PUBLISH BUZZ is the decision of the registers.
(Tier 3, an invariant every step keeps, from every state that has it.) Rests on: 45_sampling_loop.md R204;
10_state.md R36. -/
def Obligations.StepKeepsTheSnapshotConsistent : Prop :=
  ∀ s t : State, SnapLegal s → step s = .next t → SnapLegal t

/-- LINE[p] is undriven until the trace holds a SET_LINE of p, then the level of the last one, or unknown if that one
failed, before and after every step. (That reset empties the trace and the reports is the model's choice, logs 16
and 18.) (Tier 3, an invariant every step keeps, from every state that has it.) Rests on: 10_state.md section 7
(R41). -/
def Obligations.StepKeepsTheLinesATraceFunction : Prop :=
  ∀ s t : State, LinesFollowTrace s → step s = .next t → LinesFollowTrace t

/-- In a read phase at UPC = u the trace ends in the rows 0 to u - 1 of the table of R123 for channel CH, all answered
Ok, with nothing between them, and ACC holds the bits they delivered, whatever commands, reads and timer events came
between. (CH other than the channel R193 or R194 gives the phase is the model's choice, log 24; ChannelLegal of
StepKeepsThePositionLegal says that no run has it.) (Tier 3, an invariant every step keeps, from every state that
has it.) Rests on: 10_state.md section 3 (R32); 41_adc_read.md R123, R126; 70_reset_and_hazards.md R266. -/
def Obligations.StepKeepsTheTransactionWhole : Prop :=
  ∀ s t : State, TransactionLegal s → step s = .next t → TransactionLegal t

/-- For every calibration of real numbers and every configuration well formed with it, the machine right after reset has
the legal position and channel, STATUS true, the threshold in range, a consistent snapshot, lines that follow the
trace, and a whole transaction. REFCFG is well formed with the reference calibration, so State.reset has them. (That
the trace and the reports are empty after reset is the model's choice, log 16.) Rests on: 10_state.md R25, R37, R41,
R44; 45_sampling_loop.md R204. -/
def Obligations.InvariantsHoldAtReset : Prop :=
  refcfg.wellFormed (refCalibration : Calibration ℝ) = true ∧
  ∀ (cal : Calibration ℝ) (c : Config), c.wellFormed cal = true → ∀ s : State, s = State.resetWith c →
    PositionLegal s ∧ ChannelLegal s ∧ StatusLegal s ∧ ThreshLegal cal s ∧ SnapLegal s ∧ LinesFollowTrace s ∧ TransactionLegal s

/-- For every real x the integer Q(x) is within one half of x * 65536, is even when it is exactly one half away, and
does not decrease when x grows. Rests on: 42_conversion.md R145. -/
def Obligations.RoundingIsNearestHalfEven : Prop :=
  (∀ x : ℝ, |x * 65536 - qInt x| ≤ 1 / 2 ∧ (|x * 65536 - qInt x| = 1 / 2 → Even (qInt x))) ∧
  ∀ x y : ℝ, x ≤ y → qInt x ≤ qInt y

/-- For every calibration of real numbers with THRESH_MIN <= THRESH_MAX, in either direction and whatever the
potentiometer range: Q(THRESH_MIN) <= Q(thresh_real(raw)) <= Q(THRESH_MAX) at every code; and where Q(THRESH_MIN)
and Q(THRESH_MAX) are defined, the table built from it has 256 entries, and every one of these 32-bit words, as a
signed integer, lies between them: none has wrapped. Rests on: 42_conversion.md R145, R149, R151, R152. -/
def Obligations.ThresholdMapStaysInItsRange : Prop :=
  ∀ c : Calibration ℝ, c.threshMin ≤ c.threshMax →
    (∀ raw : Int, qInt c.threshMin ≤ qInt (threshReal c raw) ∧ qInt (threshReal c raw) ≤ qInt c.threshMax) ∧
    (qDefined c.threshMin = true → qDefined c.threshMax = true →
      (buildThreshRom c).length = 256 ∧ ∀ q ∈ buildThreshRom c, inThreshRange c q = true)

/-- THRESH_ROM of REFCFG equals the table that R152 builds from the reference calibration over the reals; TEMP_ROM has
256 entries, is invalid exactly at codes 0 and 255, and its data strictly decrease from code 1 to 254. Rests on:
43_conversion_tables.md R170, R171, R172. -/
def Obligations.ReferenceTablesHaveTheirProperties : Prop :=
  threshRomFollowsMap refcfg (refCalibration : Calibration ℝ) = true ∧ refTempRom.length = 256 ∧
  (∀ raw : Nat, raw < 256 → ((refTempRom.getD raw ⟨true, 0⟩).valid = false ↔ raw = 0 ∨ raw = 255)) ∧
  ∀ raw : Nat, 1 ≤ raw → raw < 254 →
    (refTempRom.getD (raw + 1) ⟨true, 0⟩).q.toInt < (refTempRom.getD raw ⟨true, 0⟩).q.toInt

/-- For every calibration of real numbers with the constraints of R7, FS = 255 and B > 0: if a < b are codes below 256
at which celsius_real is valid, celsius_real(b) < celsius_real(a). Rests on: 42_conversion.md R141, R143, R144. -/
def Obligations.ThermistorLawDecreases : Prop :=
  ∀ (c : Calibration ℝ) (a b : Nat) (x y : ℝ), c.wellFormed = true → c.fs = 255 → 0 < c.b → a < b → b < 256 →
    ¬ TempInvalid c a → ¬ TempInvalid c b → IsCelsius c a x → IsCelsius c b y → y < x

/-- For the reference calibration and every code below 256, celsius_real is invalid (saturation, R <= 0 or 1/T <= 0)
exactly at 0 and 255. Rests on: 42_conversion.md R142, R143. -/
def Obligations.ReferenceInvalidCodes : Prop :=
  ∀ raw : Nat, raw < 256 → (TempInvalid refCalibration raw ↔ raw = 0 ∨ raw = 255)
end

