-- ==== Sys2Proof/Laws/Calibration.lean ====
section
/-! SUPPORT. The rounding `Q` on reals: every real has an image, and `Q` is defined exactly on an interval (42 R145). And
what is evaluated of a rational calibration holds of it as a real one. -/

namespace Sys2Proof

/-- Every real has a nearest integer, the even one at a tie. -/
theorem exists_isQ (x : ℝ) : ∃ q : Int, IsQ x q := by
  have h1 := Int.floor_le (x * 65536)
  have h2 := Int.lt_floor_add_one (x * 65536)
  rcases lt_trichotomy (x * 65536 - ⌊x * 65536⌋) (1 / 2) with h | h | h
  · exact ⟨⌊x * 65536⌋, by rw [abs_of_nonneg] <;> linarith, fun e => by rw [abs_of_nonneg] at e <;> linarith⟩
  · rcases Int.even_or_odd ⌊x * 65536⌋ with he | ho
    · exact ⟨⌊x * 65536⌋, by rw [h]; norm_num, fun _ => he⟩
    · refine ⟨⌊x * 65536⌋ + 1, ?_, fun _ => ho.add_one⟩
      push_cast; rw [abs_le]; constructor <;> linarith
  · refine ⟨⌊x * 65536⌋ + 1, ?_, fun e => ?_⟩
    · push_cast; rw [abs_le]; constructor <;> linarith
    · push_cast at e; rw [abs_of_nonpos (by linarith)] at e; linarith

/-- `Q` is defined exactly when the scaled value rounds into the 32-bit range: the lower tie rounds to the even `−2^31`,
the upper one to the even `2^31`, which is outside. -/
theorem qDefined_iff (x : ℝ) :
    QDefined x ↔ -(2 ^ 31) - 1 / 2 ≤ x * 65536 ∧ x * 65536 < 2 ^ 31 - 1 / 2 := by
  constructor
  · rintro ⟨q, ⟨h, he⟩, hlo, hhi⟩
    have hlo' : (-(2 ^ 31) : ℝ) ≤ q := by exact_mod_cast hlo
    have hhi' : (q : ℝ) ≤ 2 ^ 31 - 1 := by exact_mod_cast hhi
    have := abs_le.mp h
    refine ⟨by linarith, lt_of_le_of_ne (by linarith) fun e => ?_⟩
    have hq : (q : ℝ) = 2 ^ 31 - 1 := by linarith
    have hq' : q = 2 ^ 31 - 1 := by exact_mod_cast hq
    have := he (by rw [e, hq]; norm_num)
    rw [hq'] at this
    exact absurd this (by decide)
  · rintro ⟨hlo, hhi⟩
    obtain ⟨q, h, he⟩ := exists_isQ x
    have ha := abs_le.mp h
    refine ⟨q, ⟨h, he⟩, ?_, ?_⟩
    · by_contra hc
      have hq : (q : ℝ) ≤ -(2 ^ 31) - 1 := by
        have : q ≤ -(2 ^ 31) - 1 := by omega
        exact_mod_cast this
      have hq' : (q : ℝ) = -(2 ^ 31) - 1 := by linarith
      have e : x * 65536 = -(2 ^ 31) - 1 / 2 := by linarith
      have := he (by rw [e, hq']; norm_num)
      have hqi : q = -(2 ^ 31) - 1 := by exact_mod_cast hq'
      rw [hqi] at this
      exact absurd this (by decide)
    · have : (q : ℝ) < 2 ^ 31 := by linarith
      have : q < 2 ^ 31 := by exact_mod_cast this
      omega

/-! ## From the rationals to the reals -/

/-- A calibration with its field parameters carried along a function. -/
def Calibration.map {K L : Type} (f : K → L) (c : Calibration K) : Calibration L where
  r0 := f c.r0
  t0 := f c.t0
  b := f c.b
  rFixed := f c.rFixed
  vref := f c.vref
  fs := c.fs
  kelvin := f c.kelvin
  potMin := c.potMin
  potMax := c.potMax
  threshMin := f c.threshMin
  threshMax := f c.threshMax
  potDirection := c.potDirection
  periodMs := f c.periodMs

/-- A rational calibration as a real one. -/
abbrev Calibration.toReal (c : Calibration ℚ) : Calibration ℝ := c.map (fun x : ℚ => (x : ℝ))

theorem refCalibration_toReal : (refCalibration : Calibration ℚ).toReal = refCalibration := by
  simp [refCalibration, Calibration.map]

@[simp] theorem roundHalfEven_ratCast (y : ℚ) : roundHalfEven (y : ℝ) = roundHalfEven y := by
  simp only [roundHalfEven, Rat.floor_cast]
  have h1 : ((y : ℝ) - (⌊y⌋ : ℝ) < 1 / 2) = (y - (⌊y⌋ : ℚ) < 1 / 2) := by
    rw [← Rat.cast_lt (K := ℝ)]; push_cast; rfl
  have h2 : ((1 : ℝ) / 2 < (y : ℝ) - (⌊y⌋ : ℝ)) = (1 / 2 < y - (⌊y⌋ : ℚ)) := by
    rw [← Rat.cast_lt (K := ℝ)]; push_cast; rfl
  simp only [h1, h2]

@[simp] theorem qInt_ratCast (x : ℚ) : qInt (x : ℝ) = qInt x := by
  rw [qInt, qInt, ← roundHalfEven_ratCast]; push_cast; rfl

@[simp] theorem qDefined_ratCast (x : ℚ) : qDefined (x : ℝ) = qDefined x := by simp [qDefined]

@[simp] theorem qWord_ratCast (x : ℚ) : qWord (x : ℝ) = qWord x := by simp [qWord]

theorem threshReal_toReal (c : Calibration ℚ) (raw : Int) : threshReal c.toReal raw = (threshReal c raw : ℚ) := by
  cases h : c.potDirection <;> simp [threshReal, threshLin, threshSpan, Calibration.map, h]

theorem buildThreshRom_toReal (c : Calibration ℚ) : buildThreshRom c.toReal = buildThreshRom c := by
  simp [buildThreshRom, threshReal_toReal]

theorem threshRomFollowsMap_toReal (c : Config) (cal : Calibration ℚ) :
    threshRomFollowsMap c cal.toReal = threshRomFollowsMap c cal := by
  simp [threshRomFollowsMap, buildThreshRom_toReal]

theorem inThreshRange_toReal (c : Calibration ℚ) (q : Q1516) : inThreshRange c.toReal q = inThreshRange c q := by
  simp [inThreshRange, Calibration.map]

theorem Calibration.wellFormed_toReal (c : Calibration ℚ) : c.toReal.wellFormed = c.wellFormed := by
  have h : (0 : ℝ) < (c.t0 : ℝ) + c.kelvin ↔ 0 < c.t0 + c.kelvin := by exact_mod_cast Iff.rfl
  simp [Calibration.wellFormed, Calibration.map, h]

theorem Config.wellFormed_toReal (c : Config) (cal : Calibration ℚ) : c.wellFormed cal.toReal = c.wellFormed cal := by
  have h : inThreshRange cal.toReal = inThreshRange cal := funext (inThreshRange_toReal cal)
  rw [Config.wellFormed, Config.wellFormed, Calibration.wellFormed_toReal, h]

end Sys2Proof
end

