-- ==== Sys2Proof/Laws/Codes.lean ====
section
/-! SUPPORT. Every field of a packed `STATUS` or `SNAP` word reads back as it was packed (10 R36, R37), and the code
tables are injective. -/

namespace Sys2Proof

section status
variable (run fcode : BitVec 2) (fop : BitVec 5) (fphase : BitVec 4) (fupc : BitVec 6)

@[simp] theorem statusRun_packStatus : statusRun (packStatus run fcode fop fphase fupc) = run := by
  apply BitVec.eq_of_getLsbD_eq; intro i hi
  simp only [statusRun, packStatus, BitVec.getLsbD_extractLsb', BitVec.getLsbD_append, hi, decide_true, Bool.true_and]
  rw [if_pos (by omega), if_pos (by omega), if_pos (by omega), if_pos (by omega)]; simp

@[simp] theorem statusFcode_packStatus : statusFcode (packStatus run fcode fop fphase fupc) = fcode := by
  apply BitVec.eq_of_getLsbD_eq; intro i hi
  simp only [statusFcode, packStatus, BitVec.getLsbD_extractLsb', BitVec.getLsbD_append, hi, decide_true, Bool.true_and]
  rw [if_pos (by omega), if_pos (by omega), if_pos (by omega), if_neg (by omega)]; congr 1; omega

@[simp] theorem statusFop_packStatus : statusFop (packStatus run fcode fop fphase fupc) = fop := by
  apply BitVec.eq_of_getLsbD_eq; intro i hi
  simp only [statusFop, packStatus, BitVec.getLsbD_extractLsb', BitVec.getLsbD_append, hi, decide_true, Bool.true_and]
  rw [if_pos (by omega), if_pos (by omega), if_neg (by omega)]; congr 1; omega

@[simp] theorem statusFphase_packStatus : statusFphase (packStatus run fcode fop fphase fupc) = fphase := by
  apply BitVec.eq_of_getLsbD_eq; intro i hi
  simp only [statusFphase, packStatus, BitVec.getLsbD_extractLsb', BitVec.getLsbD_append, hi, decide_true, Bool.true_and]
  rw [if_pos (by omega), if_neg (by omega)]; congr 1; omega

@[simp] theorem statusFupc_packStatus : statusFupc (packStatus run fcode fop fphase fupc) = fupc := by
  apply BitVec.eq_of_getLsbD_eq; intro i hi
  simp only [statusFupc, packStatus, BitVec.getLsbD_extractLsb', BitVec.getLsbD_append, hi, decide_true, Bool.true_and]
  rw [if_neg (by omega)]; congr 1; omega

@[simp] theorem statusWithRun_packStatus (run' : BitVec 2) :
    statusWithRun (packStatus run fcode fop fphase fupc) run' = packStatus run' fcode fop fphase fupc := by
  simp [statusWithRun]

end status

section snap
variable (light buzzerOn alarmState tempValid : Bool) (temperature threshold : Q1516)

@[simp] theorem snapThreshold_packSnap :
    snapThreshold (packSnap light buzzerOn alarmState tempValid temperature threshold) = threshold := by
  apply BitVec.eq_of_getLsbD_eq; intro i hi
  simp only [snapThreshold, packSnap, BitVec.getLsbD_extractLsb', BitVec.getLsbD_append, hi, decide_true, Bool.true_and]
  rw [if_pos (by omega), if_pos (by omega), if_pos (by omega), if_pos (by omega), if_pos (by omega)]; simp

@[simp] theorem snapTemperature_packSnap :
    snapTemperature (packSnap light buzzerOn alarmState tempValid temperature threshold) = temperature := by
  apply BitVec.eq_of_getLsbD_eq; intro i hi
  simp only [snapTemperature, packSnap, BitVec.getLsbD_extractLsb', BitVec.getLsbD_append, hi, decide_true, Bool.true_and]
  rw [if_pos (by omega), if_pos (by omega), if_pos (by omega), if_pos (by omega), if_neg (by omega)]; congr 1; omega

@[simp] theorem snapTempValid_packSnap :
    snapTempValid (packSnap light buzzerOn alarmState tempValid temperature threshold) = tempValid := by
  simp only [snapTempValid, packSnap, BitVec.getLsbD_append]; simp

@[simp] theorem snapAlarmState_packSnap :
    snapAlarmState (packSnap light buzzerOn alarmState tempValid temperature threshold) = alarmState := by
  simp only [snapAlarmState, packSnap, BitVec.getLsbD_append]; simp

@[simp] theorem snapBuzzerOn_packSnap :
    snapBuzzerOn (packSnap light buzzerOn alarmState tempValid temperature threshold) = buzzerOn := by
  simp only [snapBuzzerOn, packSnap, BitVec.getLsbD_append]; simp

@[simp] theorem snapLight_packSnap :
    snapLight (packSnap light buzzerOn alarmState tempValid temperature threshold) = light := by
  simp only [snapLight, packSnap, BitVec.getLsbD_append]; simp

end snap

theorem popWord_injective (a b : PortOp) (h : popWord a = popWord b) : a = b := by
  rcases a with ⟨p, l⟩ | ⟨p⟩ <;> rcases b with ⟨q, m⟩ | ⟨q⟩ <;> revert h <;>
    cases p <;> cases q <;> (try cases l) <;> (try cases m) <;> decide

theorem phaseCode_injective (p q : Phase) (h : phaseCode p = phaseCode q) : p = q := by
  revert h; cases p <;> cases q <;> decide

@[simp] theorem otherChannel_otherChannel (c : Channel) : otherChannel (otherChannel c) = c := by
  cases c <;> rfl

@[simp] theorem potDirectionOfBit_potDirectionBit (d : PotDirection) : potDirectionOfBit (potDirectionBit d) = d := by
  cases d <;> rfl

@[simp] theorem potDirectionBit_potDirectionOfBit (b : Bool) : potDirectionBit (potDirectionOfBit b) = b := by
  cases b <;> rfl

theorem maxUpc_le (p : Phase) : maxUpc p ≤ 36 := by cases p <;> decide

end Sys2Proof
end

