-- ==== Sys2Proof/Laws/State.lean ====
section
/-! SUPPORT. One lemma per field per named update of the state, so that no later proof unfolds a record update. -/

namespace Sys2Proof.Machine

section consumeEvent
variable (s : State)

@[simp] theorem State.consumeEvent_cfg : s.consumeEvent.cfg = s.cfg := rfl
@[simp] theorem State.consumeEvent_acc : s.consumeEvent.acc = s.acc := rfl
@[simp] theorem State.consumeEvent_ch : s.consumeEvent.ch = s.ch := rfl
@[simp] theorem State.consumeEvent_rawT : s.consumeEvent.rawT = s.rawT := rfl
@[simp] theorem State.consumeEvent_rawA : s.consumeEvent.rawA = s.rawA := rfl
@[simp] theorem State.consumeEvent_tempValid : s.consumeEvent.tempValid = s.tempValid := rfl
@[simp] theorem State.consumeEvent_temp : s.consumeEvent.temp = s.temp := rfl
@[simp] theorem State.consumeEvent_thresh : s.consumeEvent.thresh = s.thresh := rfl
@[simp] theorem State.consumeEvent_light : s.consumeEvent.light = s.light := rfl
@[simp] theorem State.consumeEvent_alarmSeen : s.consumeEvent.alarmSeen = s.alarmSeen := rfl
@[simp] theorem State.consumeEvent_buzz : s.consumeEvent.buzz = s.buzz := rfl
@[simp] theorem State.consumeEvent_phase : s.consumeEvent.phase = s.phase := rfl
@[simp] theorem State.consumeEvent_upc : s.consumeEvent.upc = s.upc := rfl
@[simp] theorem State.consumeEvent_alarm : s.consumeEvent.alarm = s.alarm := rfl
@[simp] theorem State.consumeEvent_stopReq : s.consumeEvent.stopReq = s.stopReq := rfl
@[simp] theorem State.consumeEvent_status : s.consumeEvent.status = s.status := rfl
@[simp] theorem State.consumeEvent_snap : s.consumeEvent.snap = s.snap := rfl
@[simp] theorem State.consumeEvent_lines : s.consumeEvent.lines = s.lines := rfl
@[simp] theorem State.consumeEvent_trace : s.consumeEvent.trace = s.trace := rfl
@[simp] theorem State.consumeEvent_reports : s.consumeEvent.reports = s.reports := rfl
@[simp] theorem State.consumeEvent_view : s.consumeEvent.view = s.view := rfl
@[simp] theorem State.consumeEvent_result : s.consumeEvent.result = s.result := rfl
@[simp] theorem State.consumeEvent_env : s.consumeEvent.env = s.env.dropEvent := rfl

end consumeEvent

section answered
variable (s : State) (op : PortOp) (a : PortAnswer)

@[simp] theorem State.answered_cfg : (s.answered op a).cfg = s.cfg := rfl
@[simp] theorem State.answered_acc : (s.answered op a).acc = s.acc := rfl
@[simp] theorem State.answered_ch : (s.answered op a).ch = s.ch := rfl
@[simp] theorem State.answered_rawT : (s.answered op a).rawT = s.rawT := rfl
@[simp] theorem State.answered_rawA : (s.answered op a).rawA = s.rawA := rfl
@[simp] theorem State.answered_tempValid : (s.answered op a).tempValid = s.tempValid := rfl
@[simp] theorem State.answered_temp : (s.answered op a).temp = s.temp := rfl
@[simp] theorem State.answered_thresh : (s.answered op a).thresh = s.thresh := rfl
@[simp] theorem State.answered_light : (s.answered op a).light = s.light := rfl
@[simp] theorem State.answered_alarmSeen : (s.answered op a).alarmSeen = s.alarmSeen := rfl
@[simp] theorem State.answered_buzz : (s.answered op a).buzz = s.buzz := rfl
@[simp] theorem State.answered_phase : (s.answered op a).phase = s.phase := rfl
@[simp] theorem State.answered_upc : (s.answered op a).upc = s.upc := rfl
@[simp] theorem State.answered_alarm : (s.answered op a).alarm = s.alarm := rfl
@[simp] theorem State.answered_stopReq : (s.answered op a).stopReq = s.stopReq := rfl
@[simp] theorem State.answered_status : (s.answered op a).status = s.status := rfl
@[simp] theorem State.answered_snap : (s.answered op a).snap = s.snap := rfl
@[simp] theorem State.answered_lines : (s.answered op a).lines = s.lines.after op a := rfl
@[simp] theorem State.answered_trace : (s.answered op a).trace = s.trace ++ [traceEntry op a] := rfl
@[simp] theorem State.answered_reports : (s.answered op a).reports = s.reports := rfl
@[simp] theorem State.answered_view : (s.answered op a).view = s.view := rfl
@[simp] theorem State.answered_result : (s.answered op a).result = s.result := rfl
@[simp] theorem State.answered_env : (s.answered op a).env = s.env.dropAnswer := rfl

end answered

section enterFault
variable (s : State) (code : FaultCode) (fop : BitVec 5)

@[simp] theorem State.enterFault_cfg : (s.enterFault code fop).cfg = s.cfg := rfl
@[simp] theorem State.enterFault_acc : (s.enterFault code fop).acc = s.acc := rfl
@[simp] theorem State.enterFault_ch : (s.enterFault code fop).ch = s.ch := rfl
@[simp] theorem State.enterFault_rawT : (s.enterFault code fop).rawT = s.rawT := rfl
@[simp] theorem State.enterFault_rawA : (s.enterFault code fop).rawA = s.rawA := rfl
@[simp] theorem State.enterFault_tempValid : (s.enterFault code fop).tempValid = s.tempValid := rfl
@[simp] theorem State.enterFault_temp : (s.enterFault code fop).temp = s.temp := rfl
@[simp] theorem State.enterFault_thresh : (s.enterFault code fop).thresh = s.thresh := rfl
@[simp] theorem State.enterFault_light : (s.enterFault code fop).light = s.light := rfl
@[simp] theorem State.enterFault_alarmSeen : (s.enterFault code fop).alarmSeen = s.alarmSeen := rfl
@[simp] theorem State.enterFault_buzz : (s.enterFault code fop).buzz = s.buzz := rfl
@[simp] theorem State.enterFault_phase : (s.enterFault code fop).phase = .faulted := rfl
@[simp] theorem State.enterFault_upc : (s.enterFault code fop).upc = 0 := rfl
@[simp] theorem State.enterFault_alarm : (s.enterFault code fop).alarm = s.alarm := rfl
@[simp] theorem State.enterFault_stopReq : (s.enterFault code fop).stopReq = s.stopReq := rfl
@[simp] theorem State.enterFault_status : (s.enterFault code fop).status = packStatus (runCode .faulted) (faultNumber code) fop (phaseCode s.phase) s.upc := rfl
@[simp] theorem State.enterFault_snap : (s.enterFault code fop).snap = s.snap := rfl
@[simp] theorem State.enterFault_lines : (s.enterFault code fop).lines = s.lines := rfl
@[simp] theorem State.enterFault_trace : (s.enterFault code fop).trace = s.trace := rfl
@[simp] theorem State.enterFault_reports : (s.enterFault code fop).reports = s.reports ++ [⟨code, fop, phaseCode s.phase, s.upc⟩] := rfl
@[simp] theorem State.enterFault_view : (s.enterFault code fop).view = s.view := rfl
@[simp] theorem State.enterFault_result : (s.enterFault code fop).result = s.result := rfl
@[simp] theorem State.enterFault_env : (s.enterFault code fop).env = s.env := rfl

end enterFault

section goto
variable (s : State) (p : Phase)

@[simp] theorem State.goto_cfg : (s.goto p).cfg = s.cfg := rfl
@[simp] theorem State.goto_acc : (s.goto p).acc = s.acc := rfl
@[simp] theorem State.goto_ch : (s.goto p).ch = s.ch := rfl
@[simp] theorem State.goto_rawT : (s.goto p).rawT = s.rawT := rfl
@[simp] theorem State.goto_rawA : (s.goto p).rawA = s.rawA := rfl
@[simp] theorem State.goto_tempValid : (s.goto p).tempValid = s.tempValid := rfl
@[simp] theorem State.goto_temp : (s.goto p).temp = s.temp := rfl
@[simp] theorem State.goto_thresh : (s.goto p).thresh = s.thresh := rfl
@[simp] theorem State.goto_light : (s.goto p).light = s.light := rfl
@[simp] theorem State.goto_alarmSeen : (s.goto p).alarmSeen = s.alarmSeen := rfl
@[simp] theorem State.goto_buzz : (s.goto p).buzz = s.buzz := rfl
@[simp] theorem State.goto_phase : (s.goto p).phase = p := rfl
@[simp] theorem State.goto_upc : (s.goto p).upc = 0 := rfl
@[simp] theorem State.goto_alarm : (s.goto p).alarm = s.alarm := rfl
@[simp] theorem State.goto_stopReq : (s.goto p).stopReq = s.stopReq := rfl
@[simp] theorem State.goto_status : (s.goto p).status = s.status := rfl
@[simp] theorem State.goto_snap : (s.goto p).snap = s.snap := rfl
@[simp] theorem State.goto_lines : (s.goto p).lines = s.lines := rfl
@[simp] theorem State.goto_trace : (s.goto p).trace = s.trace := rfl
@[simp] theorem State.goto_reports : (s.goto p).reports = s.reports := rfl
@[simp] theorem State.goto_view : (s.goto p).view = s.view := rfl
@[simp] theorem State.goto_result : (s.goto p).result = s.result := rfl
@[simp] theorem State.goto_env : (s.goto p).env = s.env := rfl

end goto

section nextMicro
variable (s : State)

@[simp] theorem State.nextMicro_cfg : s.nextMicro.cfg = s.cfg := rfl
@[simp] theorem State.nextMicro_acc : s.nextMicro.acc = s.acc := rfl
@[simp] theorem State.nextMicro_ch : s.nextMicro.ch = s.ch := rfl
@[simp] theorem State.nextMicro_rawT : s.nextMicro.rawT = s.rawT := rfl
@[simp] theorem State.nextMicro_rawA : s.nextMicro.rawA = s.rawA := rfl
@[simp] theorem State.nextMicro_tempValid : s.nextMicro.tempValid = s.tempValid := rfl
@[simp] theorem State.nextMicro_temp : s.nextMicro.temp = s.temp := rfl
@[simp] theorem State.nextMicro_thresh : s.nextMicro.thresh = s.thresh := rfl
@[simp] theorem State.nextMicro_light : s.nextMicro.light = s.light := rfl
@[simp] theorem State.nextMicro_alarmSeen : s.nextMicro.alarmSeen = s.alarmSeen := rfl
@[simp] theorem State.nextMicro_buzz : s.nextMicro.buzz = s.buzz := rfl
@[simp] theorem State.nextMicro_phase : s.nextMicro.phase = s.phase := rfl
@[simp] theorem State.nextMicro_upc : s.nextMicro.upc = s.upc + 1 := rfl
@[simp] theorem State.nextMicro_alarm : s.nextMicro.alarm = s.alarm := rfl
@[simp] theorem State.nextMicro_stopReq : s.nextMicro.stopReq = s.stopReq := rfl
@[simp] theorem State.nextMicro_status : s.nextMicro.status = s.status := rfl
@[simp] theorem State.nextMicro_snap : s.nextMicro.snap = s.snap := rfl
@[simp] theorem State.nextMicro_lines : s.nextMicro.lines = s.lines := rfl
@[simp] theorem State.nextMicro_trace : s.nextMicro.trace = s.trace := rfl
@[simp] theorem State.nextMicro_reports : s.nextMicro.reports = s.reports := rfl
@[simp] theorem State.nextMicro_view : s.nextMicro.view = s.view := rfl
@[simp] theorem State.nextMicro_result : s.nextMicro.result = s.result := rfl
@[simp] theorem State.nextMicro_env : s.nextMicro.env = s.env := rfl

end nextMicro

section enterStopped
variable (s : State)

@[simp] theorem State.enterStopped_cfg : s.enterStopped.cfg = s.cfg := rfl
@[simp] theorem State.enterStopped_acc : s.enterStopped.acc = s.acc := rfl
@[simp] theorem State.enterStopped_ch : s.enterStopped.ch = s.ch := rfl
@[simp] theorem State.enterStopped_rawT : s.enterStopped.rawT = s.rawT := rfl
@[simp] theorem State.enterStopped_rawA : s.enterStopped.rawA = s.rawA := rfl
@[simp] theorem State.enterStopped_tempValid : s.enterStopped.tempValid = s.tempValid := rfl
@[simp] theorem State.enterStopped_temp : s.enterStopped.temp = s.temp := rfl
@[simp] theorem State.enterStopped_thresh : s.enterStopped.thresh = s.thresh := rfl
@[simp] theorem State.enterStopped_light : s.enterStopped.light = s.light := rfl
@[simp] theorem State.enterStopped_alarmSeen : s.enterStopped.alarmSeen = s.alarmSeen := rfl
@[simp] theorem State.enterStopped_buzz : s.enterStopped.buzz = s.buzz := rfl
@[simp] theorem State.enterStopped_phase : s.enterStopped.phase = .stopped := rfl
@[simp] theorem State.enterStopped_upc : s.enterStopped.upc = 0 := rfl
@[simp] theorem State.enterStopped_alarm : s.enterStopped.alarm = s.alarm := rfl
@[simp] theorem State.enterStopped_stopReq : s.enterStopped.stopReq = s.stopReq := rfl
@[simp] theorem State.enterStopped_status : s.enterStopped.status = statusWithRun s.status (runCode .stopped) := rfl
@[simp] theorem State.enterStopped_snap : s.enterStopped.snap = s.snap := rfl
@[simp] theorem State.enterStopped_lines : s.enterStopped.lines = s.lines := rfl
@[simp] theorem State.enterStopped_trace : s.enterStopped.trace = s.trace := rfl
@[simp] theorem State.enterStopped_reports : s.enterStopped.reports = s.reports := rfl
@[simp] theorem State.enterStopped_view : s.enterStopped.view = s.view := rfl
@[simp] theorem State.enterStopped_result : s.enterStopped.result = s.result := rfl
@[simp] theorem State.enterStopped_env : s.enterStopped.env = s.env := rfl

end enterStopped

section writeAlarm
variable (s : State) (v : AlarmState)

@[simp] theorem State.writeAlarm_cfg : (s.writeAlarm v).cfg = s.cfg := rfl
@[simp] theorem State.writeAlarm_acc : (s.writeAlarm v).acc = s.acc := rfl
@[simp] theorem State.writeAlarm_ch : (s.writeAlarm v).ch = s.ch := rfl
@[simp] theorem State.writeAlarm_rawT : (s.writeAlarm v).rawT = s.rawT := rfl
@[simp] theorem State.writeAlarm_rawA : (s.writeAlarm v).rawA = s.rawA := rfl
@[simp] theorem State.writeAlarm_tempValid : (s.writeAlarm v).tempValid = s.tempValid := rfl
@[simp] theorem State.writeAlarm_temp : (s.writeAlarm v).temp = s.temp := rfl
@[simp] theorem State.writeAlarm_thresh : (s.writeAlarm v).thresh = s.thresh := rfl
@[simp] theorem State.writeAlarm_light : (s.writeAlarm v).light = s.light := rfl
@[simp] theorem State.writeAlarm_alarmSeen : (s.writeAlarm v).alarmSeen = s.alarmSeen := rfl
@[simp] theorem State.writeAlarm_buzz : (s.writeAlarm v).buzz = s.buzz := rfl
@[simp] theorem State.writeAlarm_phase : (s.writeAlarm v).phase = s.phase := rfl
@[simp] theorem State.writeAlarm_upc : (s.writeAlarm v).upc = s.upc := rfl
@[simp] theorem State.writeAlarm_alarm : (s.writeAlarm v).alarm = v := rfl
@[simp] theorem State.writeAlarm_stopReq : (s.writeAlarm v).stopReq = s.stopReq := rfl
@[simp] theorem State.writeAlarm_status : (s.writeAlarm v).status = s.status := rfl
@[simp] theorem State.writeAlarm_snap : (s.writeAlarm v).snap = s.snap := rfl
@[simp] theorem State.writeAlarm_lines : (s.writeAlarm v).lines = s.lines := rfl
@[simp] theorem State.writeAlarm_trace : (s.writeAlarm v).trace = s.trace := rfl
@[simp] theorem State.writeAlarm_reports : (s.writeAlarm v).reports = s.reports := rfl
@[simp] theorem State.writeAlarm_view : (s.writeAlarm v).view = s.view := rfl
@[simp] theorem State.writeAlarm_result : (s.writeAlarm v).result = s.result := rfl
@[simp] theorem State.writeAlarm_env : (s.writeAlarm v).env = s.env := rfl

end writeAlarm

section decideStep
variable (s : State)

@[simp] theorem State.decideStep_cfg : s.decideStep.cfg = s.cfg := rfl
@[simp] theorem State.decideStep_acc : s.decideStep.acc = s.acc := rfl
@[simp] theorem State.decideStep_ch : s.decideStep.ch = s.ch := rfl
@[simp] theorem State.decideStep_rawT : s.decideStep.rawT = s.rawT := rfl
@[simp] theorem State.decideStep_rawA : s.decideStep.rawA = s.rawA := rfl
@[simp] theorem State.decideStep_tempValid : s.decideStep.tempValid = s.tempValid := rfl
@[simp] theorem State.decideStep_temp : s.decideStep.temp = s.temp := rfl
@[simp] theorem State.decideStep_thresh : s.decideStep.thresh = s.thresh := rfl
@[simp] theorem State.decideStep_light : s.decideStep.light = s.light := rfl
@[simp] theorem State.decideStep_alarmSeen : s.decideStep.alarmSeen = s.alarmSeen := rfl
@[simp] theorem State.decideStep_buzz : s.decideStep.buzz = decideBuzzer s.alarmSeen s.tempValid s.temp s.thresh := rfl
@[simp] theorem State.decideStep_phase : s.decideStep.phase = s.phase := rfl
@[simp] theorem State.decideStep_upc : s.decideStep.upc = s.upc := rfl
@[simp] theorem State.decideStep_alarm : s.decideStep.alarm = s.alarm := rfl
@[simp] theorem State.decideStep_stopReq : s.decideStep.stopReq = s.stopReq := rfl
@[simp] theorem State.decideStep_status : s.decideStep.status = s.status := rfl
@[simp] theorem State.decideStep_snap : s.decideStep.snap = s.snap := rfl
@[simp] theorem State.decideStep_lines : s.decideStep.lines = s.lines := rfl
@[simp] theorem State.decideStep_trace : s.decideStep.trace = s.trace := rfl
@[simp] theorem State.decideStep_reports : s.decideStep.reports = s.reports := rfl
@[simp] theorem State.decideStep_view : s.decideStep.view = s.view := rfl
@[simp] theorem State.decideStep_result : s.decideStep.result = s.result := rfl
@[simp] theorem State.decideStep_env : s.decideStep.env = s.env := rfl

end decideStep

section evalLight
variable (s : State)

@[simp] theorem State.evalLight_cfg : s.evalLight.cfg = s.cfg := rfl
@[simp] theorem State.evalLight_acc : s.evalLight.acc = s.acc := rfl
@[simp] theorem State.evalLight_ch : s.evalLight.ch = s.ch := rfl
@[simp] theorem State.evalLight_rawT : s.evalLight.rawT = s.rawT := rfl
@[simp] theorem State.evalLight_rawA : s.evalLight.rawA = s.rawA := rfl
@[simp] theorem State.evalLight_tempValid : s.evalLight.tempValid = s.tempValid := rfl
@[simp] theorem State.evalLight_temp : s.evalLight.temp = s.temp := rfl
@[simp] theorem State.evalLight_thresh : s.evalLight.thresh = s.thresh := rfl
@[simp] theorem State.evalLight_light : s.evalLight.light = convLight s.cfg s.rawA := rfl
@[simp] theorem State.evalLight_alarmSeen : s.evalLight.alarmSeen = s.alarmSeen := rfl
@[simp] theorem State.evalLight_buzz : s.evalLight.buzz = s.buzz := rfl
@[simp] theorem State.evalLight_phase : s.evalLight.phase = s.phase := rfl
@[simp] theorem State.evalLight_upc : s.evalLight.upc = s.upc := rfl
@[simp] theorem State.evalLight_alarm : s.evalLight.alarm = s.alarm := rfl
@[simp] theorem State.evalLight_stopReq : s.evalLight.stopReq = s.stopReq := rfl
@[simp] theorem State.evalLight_status : s.evalLight.status = s.status := rfl
@[simp] theorem State.evalLight_snap : s.evalLight.snap = s.snap := rfl
@[simp] theorem State.evalLight_lines : s.evalLight.lines = s.lines := rfl
@[simp] theorem State.evalLight_trace : s.evalLight.trace = s.trace := rfl
@[simp] theorem State.evalLight_reports : s.evalLight.reports = s.reports := rfl
@[simp] theorem State.evalLight_view : s.evalLight.view = s.view := rfl
@[simp] theorem State.evalLight_result : s.evalLight.result = s.result := rfl
@[simp] theorem State.evalLight_env : s.evalLight.env = s.env := rfl

end evalLight

section evalSeeAlarm
variable (s : State)

@[simp] theorem State.evalSeeAlarm_cfg : s.evalSeeAlarm.cfg = s.cfg := rfl
@[simp] theorem State.evalSeeAlarm_acc : s.evalSeeAlarm.acc = s.acc := rfl
@[simp] theorem State.evalSeeAlarm_ch : s.evalSeeAlarm.ch = s.ch := rfl
@[simp] theorem State.evalSeeAlarm_rawT : s.evalSeeAlarm.rawT = s.rawT := rfl
@[simp] theorem State.evalSeeAlarm_rawA : s.evalSeeAlarm.rawA = s.rawA := rfl
@[simp] theorem State.evalSeeAlarm_tempValid : s.evalSeeAlarm.tempValid = s.tempValid := rfl
@[simp] theorem State.evalSeeAlarm_temp : s.evalSeeAlarm.temp = s.temp := rfl
@[simp] theorem State.evalSeeAlarm_thresh : s.evalSeeAlarm.thresh = s.thresh := rfl
@[simp] theorem State.evalSeeAlarm_light : s.evalSeeAlarm.light = s.light := rfl
@[simp] theorem State.evalSeeAlarm_alarmSeen : s.evalSeeAlarm.alarmSeen = s.alarm := rfl
@[simp] theorem State.evalSeeAlarm_buzz : s.evalSeeAlarm.buzz = s.buzz := rfl
@[simp] theorem State.evalSeeAlarm_phase : s.evalSeeAlarm.phase = s.phase := rfl
@[simp] theorem State.evalSeeAlarm_upc : s.evalSeeAlarm.upc = s.upc := rfl
@[simp] theorem State.evalSeeAlarm_alarm : s.evalSeeAlarm.alarm = s.alarm := rfl
@[simp] theorem State.evalSeeAlarm_stopReq : s.evalSeeAlarm.stopReq = s.stopReq := rfl
@[simp] theorem State.evalSeeAlarm_status : s.evalSeeAlarm.status = s.status := rfl
@[simp] theorem State.evalSeeAlarm_snap : s.evalSeeAlarm.snap = s.snap := rfl
@[simp] theorem State.evalSeeAlarm_lines : s.evalSeeAlarm.lines = s.lines := rfl
@[simp] theorem State.evalSeeAlarm_trace : s.evalSeeAlarm.trace = s.trace := rfl
@[simp] theorem State.evalSeeAlarm_reports : s.evalSeeAlarm.reports = s.reports := rfl
@[simp] theorem State.evalSeeAlarm_view : s.evalSeeAlarm.view = s.view := rfl
@[simp] theorem State.evalSeeAlarm_result : s.evalSeeAlarm.result = s.result := rfl
@[simp] theorem State.evalSeeAlarm_env : s.evalSeeAlarm.env = s.env := rfl

end evalSeeAlarm

section finishReadT
variable (s : State)

@[simp] theorem State.finishReadT_cfg : s.finishReadT.cfg = s.cfg := rfl
@[simp] theorem State.finishReadT_acc : s.finishReadT.acc = s.acc := rfl
@[simp] theorem State.finishReadT_ch : s.finishReadT.ch = otherChannel s.cfg.tempChannel := rfl
@[simp] theorem State.finishReadT_rawT : s.finishReadT.rawT = s.acc := rfl
@[simp] theorem State.finishReadT_rawA : s.finishReadT.rawA = s.rawA := rfl
@[simp] theorem State.finishReadT_tempValid : s.finishReadT.tempValid = s.tempValid := rfl
@[simp] theorem State.finishReadT_temp : s.finishReadT.temp = s.temp := rfl
@[simp] theorem State.finishReadT_thresh : s.finishReadT.thresh = s.thresh := rfl
@[simp] theorem State.finishReadT_light : s.finishReadT.light = s.light := rfl
@[simp] theorem State.finishReadT_alarmSeen : s.finishReadT.alarmSeen = s.alarmSeen := rfl
@[simp] theorem State.finishReadT_buzz : s.finishReadT.buzz = s.buzz := rfl
@[simp] theorem State.finishReadT_phase : s.finishReadT.phase = .readA := rfl
@[simp] theorem State.finishReadT_upc : s.finishReadT.upc = 0 := rfl
@[simp] theorem State.finishReadT_alarm : s.finishReadT.alarm = s.alarm := rfl
@[simp] theorem State.finishReadT_stopReq : s.finishReadT.stopReq = s.stopReq := rfl
@[simp] theorem State.finishReadT_status : s.finishReadT.status = s.status := rfl
@[simp] theorem State.finishReadT_snap : s.finishReadT.snap = s.snap := rfl
@[simp] theorem State.finishReadT_lines : s.finishReadT.lines = s.lines := rfl
@[simp] theorem State.finishReadT_trace : s.finishReadT.trace = s.trace := rfl
@[simp] theorem State.finishReadT_reports : s.finishReadT.reports = s.reports := rfl
@[simp] theorem State.finishReadT_view : s.finishReadT.view = s.view := rfl
@[simp] theorem State.finishReadT_result : s.finishReadT.result = s.result := rfl
@[simp] theorem State.finishReadT_env : s.finishReadT.env = s.env := rfl

end finishReadT

section finishReadA
variable (s : State)

@[simp] theorem State.finishReadA_cfg : s.finishReadA.cfg = s.cfg := rfl
@[simp] theorem State.finishReadA_acc : s.finishReadA.acc = s.acc := rfl
@[simp] theorem State.finishReadA_ch : s.finishReadA.ch = s.ch := rfl
@[simp] theorem State.finishReadA_rawT : s.finishReadA.rawT = s.rawT := rfl
@[simp] theorem State.finishReadA_rawA : s.finishReadA.rawA = s.acc := rfl
@[simp] theorem State.finishReadA_tempValid : s.finishReadA.tempValid = s.tempValid := rfl
@[simp] theorem State.finishReadA_temp : s.finishReadA.temp = s.temp := rfl
@[simp] theorem State.finishReadA_thresh : s.finishReadA.thresh = s.thresh := rfl
@[simp] theorem State.finishReadA_light : s.finishReadA.light = s.light := rfl
@[simp] theorem State.finishReadA_alarmSeen : s.finishReadA.alarmSeen = s.alarmSeen := rfl
@[simp] theorem State.finishReadA_buzz : s.finishReadA.buzz = s.buzz := rfl
@[simp] theorem State.finishReadA_phase : s.finishReadA.phase = .eval := rfl
@[simp] theorem State.finishReadA_upc : s.finishReadA.upc = 0 := rfl
@[simp] theorem State.finishReadA_alarm : s.finishReadA.alarm = s.alarm := rfl
@[simp] theorem State.finishReadA_stopReq : s.finishReadA.stopReq = s.stopReq := rfl
@[simp] theorem State.finishReadA_status : s.finishReadA.status = s.status := rfl
@[simp] theorem State.finishReadA_snap : s.finishReadA.snap = s.snap := rfl
@[simp] theorem State.finishReadA_lines : s.finishReadA.lines = s.lines := rfl
@[simp] theorem State.finishReadA_trace : s.finishReadA.trace = s.trace := rfl
@[simp] theorem State.finishReadA_reports : s.finishReadA.reports = s.reports := rfl
@[simp] theorem State.finishReadA_view : s.finishReadA.view = s.view := rfl
@[simp] theorem State.finishReadA_result : s.finishReadA.result = s.result := rfl
@[simp] theorem State.finishReadA_env : s.finishReadA.env = s.env := rfl

end finishReadA

/-! ## Updates with a case split -/

@[simp] theorem State.evalConvert_cfg (s : State) : (s.evalConvert).cfg = s.cfg := by
  unfold State.evalConvert; repeat' split
  all_goals rfl
@[simp] theorem State.evalConvert_acc (s : State) : (s.evalConvert).acc = s.acc := by
  unfold State.evalConvert; repeat' split
  all_goals rfl
@[simp] theorem State.evalConvert_ch (s : State) : (s.evalConvert).ch = s.ch := by
  unfold State.evalConvert; repeat' split
  all_goals rfl
@[simp] theorem State.evalConvert_rawT (s : State) : (s.evalConvert).rawT = s.rawT := by
  unfold State.evalConvert; repeat' split
  all_goals rfl
@[simp] theorem State.evalConvert_rawA (s : State) : (s.evalConvert).rawA = s.rawA := by
  unfold State.evalConvert; repeat' split
  all_goals rfl
@[simp] theorem State.evalConvert_light (s : State) : (s.evalConvert).light = s.light := by
  unfold State.evalConvert; repeat' split
  all_goals rfl
@[simp] theorem State.evalConvert_alarmSeen (s : State) : (s.evalConvert).alarmSeen = s.alarmSeen := by
  unfold State.evalConvert; repeat' split
  all_goals rfl
@[simp] theorem State.evalConvert_buzz (s : State) : (s.evalConvert).buzz = s.buzz := by
  unfold State.evalConvert; repeat' split
  all_goals rfl
@[simp] theorem State.evalConvert_phase (s : State) : (s.evalConvert).phase = s.phase := by
  unfold State.evalConvert; repeat' split
  all_goals rfl
@[simp] theorem State.evalConvert_upc (s : State) : (s.evalConvert).upc = s.upc := by
  unfold State.evalConvert; repeat' split
  all_goals rfl
@[simp] theorem State.evalConvert_alarm (s : State) : (s.evalConvert).alarm = s.alarm := by
  unfold State.evalConvert; repeat' split
  all_goals rfl
@[simp] theorem State.evalConvert_stopReq (s : State) : (s.evalConvert).stopReq = s.stopReq := by
  unfold State.evalConvert; repeat' split
  all_goals rfl
@[simp] theorem State.evalConvert_status (s : State) : (s.evalConvert).status = s.status := by
  unfold State.evalConvert; repeat' split
  all_goals rfl
@[simp] theorem State.evalConvert_snap (s : State) : (s.evalConvert).snap = s.snap := by
  unfold State.evalConvert; repeat' split
  all_goals rfl
@[simp] theorem State.evalConvert_lines (s : State) : (s.evalConvert).lines = s.lines := by
  unfold State.evalConvert; repeat' split
  all_goals rfl
@[simp] theorem State.evalConvert_trace (s : State) : (s.evalConvert).trace = s.trace := by
  unfold State.evalConvert; repeat' split
  all_goals rfl
@[simp] theorem State.evalConvert_reports (s : State) : (s.evalConvert).reports = s.reports := by
  unfold State.evalConvert; repeat' split
  all_goals rfl
@[simp] theorem State.evalConvert_view (s : State) : (s.evalConvert).view = s.view := by
  unfold State.evalConvert; repeat' split
  all_goals rfl
@[simp] theorem State.evalConvert_result (s : State) : (s.evalConvert).result = s.result := by
  unfold State.evalConvert; repeat' split
  all_goals rfl
@[simp] theorem State.evalConvert_env (s : State) : (s.evalConvert).env = s.env := by
  unfold State.evalConvert; repeat' split
  all_goals rfl

@[simp] theorem State.microAcc_cfg (s : State) (op : PortOp) (b : Level) : (s.microAcc op b).cfg = s.cfg := by
  unfold State.microAcc; repeat' split
  all_goals rfl
@[simp] theorem State.microAcc_ch (s : State) (op : PortOp) (b : Level) : (s.microAcc op b).ch = s.ch := by
  unfold State.microAcc; repeat' split
  all_goals rfl
@[simp] theorem State.microAcc_rawT (s : State) (op : PortOp) (b : Level) : (s.microAcc op b).rawT = s.rawT := by
  unfold State.microAcc; repeat' split
  all_goals rfl
@[simp] theorem State.microAcc_rawA (s : State) (op : PortOp) (b : Level) : (s.microAcc op b).rawA = s.rawA := by
  unfold State.microAcc; repeat' split
  all_goals rfl
@[simp] theorem State.microAcc_tempValid (s : State) (op : PortOp) (b : Level) : (s.microAcc op b).tempValid = s.tempValid := by
  unfold State.microAcc; repeat' split
  all_goals rfl
@[simp] theorem State.microAcc_temp (s : State) (op : PortOp) (b : Level) : (s.microAcc op b).temp = s.temp := by
  unfold State.microAcc; repeat' split
  all_goals rfl
@[simp] theorem State.microAcc_thresh (s : State) (op : PortOp) (b : Level) : (s.microAcc op b).thresh = s.thresh := by
  unfold State.microAcc; repeat' split
  all_goals rfl
@[simp] theorem State.microAcc_light (s : State) (op : PortOp) (b : Level) : (s.microAcc op b).light = s.light := by
  unfold State.microAcc; repeat' split
  all_goals rfl
@[simp] theorem State.microAcc_alarmSeen (s : State) (op : PortOp) (b : Level) : (s.microAcc op b).alarmSeen = s.alarmSeen := by
  unfold State.microAcc; repeat' split
  all_goals rfl
@[simp] theorem State.microAcc_buzz (s : State) (op : PortOp) (b : Level) : (s.microAcc op b).buzz = s.buzz := by
  unfold State.microAcc; repeat' split
  all_goals rfl
@[simp] theorem State.microAcc_phase (s : State) (op : PortOp) (b : Level) : (s.microAcc op b).phase = s.phase := by
  unfold State.microAcc; repeat' split
  all_goals rfl
@[simp] theorem State.microAcc_upc (s : State) (op : PortOp) (b : Level) : (s.microAcc op b).upc = s.upc := by
  unfold State.microAcc; repeat' split
  all_goals rfl
@[simp] theorem State.microAcc_alarm (s : State) (op : PortOp) (b : Level) : (s.microAcc op b).alarm = s.alarm := by
  unfold State.microAcc; repeat' split
  all_goals rfl
@[simp] theorem State.microAcc_stopReq (s : State) (op : PortOp) (b : Level) : (s.microAcc op b).stopReq = s.stopReq := by
  unfold State.microAcc; repeat' split
  all_goals rfl
@[simp] theorem State.microAcc_status (s : State) (op : PortOp) (b : Level) : (s.microAcc op b).status = s.status := by
  unfold State.microAcc; repeat' split
  all_goals rfl
@[simp] theorem State.microAcc_snap (s : State) (op : PortOp) (b : Level) : (s.microAcc op b).snap = s.snap := by
  unfold State.microAcc; repeat' split
  all_goals rfl
@[simp] theorem State.microAcc_lines (s : State) (op : PortOp) (b : Level) : (s.microAcc op b).lines = s.lines := by
  unfold State.microAcc; repeat' split
  all_goals rfl
@[simp] theorem State.microAcc_trace (s : State) (op : PortOp) (b : Level) : (s.microAcc op b).trace = s.trace := by
  unfold State.microAcc; repeat' split
  all_goals rfl
@[simp] theorem State.microAcc_reports (s : State) (op : PortOp) (b : Level) : (s.microAcc op b).reports = s.reports := by
  unfold State.microAcc; repeat' split
  all_goals rfl
@[simp] theorem State.microAcc_view (s : State) (op : PortOp) (b : Level) : (s.microAcc op b).view = s.view := by
  unfold State.microAcc; repeat' split
  all_goals rfl
@[simp] theorem State.microAcc_result (s : State) (op : PortOp) (b : Level) : (s.microAcc op b).result = s.result := by
  unfold State.microAcc; repeat' split
  all_goals rfl
@[simp] theorem State.microAcc_env (s : State) (op : PortOp) (b : Level) : (s.microAcc op b).env = s.env := by
  unfold State.microAcc; repeat' split
  all_goals rfl

@[simp] theorem State.deliverBit_cfg (s : State) (b : Level) : (s.deliverBit b).cfg = s.cfg := by
  unfold State.deliverBit; repeat' split
  all_goals rfl
@[simp] theorem State.deliverBit_ch (s : State) (b : Level) : (s.deliverBit b).ch = s.ch := by
  unfold State.deliverBit; repeat' split
  all_goals rfl
@[simp] theorem State.deliverBit_rawT (s : State) (b : Level) : (s.deliverBit b).rawT = s.rawT := by
  unfold State.deliverBit; repeat' split
  all_goals rfl
@[simp] theorem State.deliverBit_rawA (s : State) (b : Level) : (s.deliverBit b).rawA = s.rawA := by
  unfold State.deliverBit; repeat' split
  all_goals rfl
@[simp] theorem State.deliverBit_tempValid (s : State) (b : Level) : (s.deliverBit b).tempValid = s.tempValid := by
  unfold State.deliverBit; repeat' split
  all_goals rfl
@[simp] theorem State.deliverBit_temp (s : State) (b : Level) : (s.deliverBit b).temp = s.temp := by
  unfold State.deliverBit; repeat' split
  all_goals rfl
@[simp] theorem State.deliverBit_thresh (s : State) (b : Level) : (s.deliverBit b).thresh = s.thresh := by
  unfold State.deliverBit; repeat' split
  all_goals rfl
@[simp] theorem State.deliverBit_light (s : State) (b : Level) : (s.deliverBit b).light = s.light := by
  unfold State.deliverBit; repeat' split
  all_goals rfl
@[simp] theorem State.deliverBit_alarmSeen (s : State) (b : Level) : (s.deliverBit b).alarmSeen = s.alarmSeen := by
  unfold State.deliverBit; repeat' split
  all_goals rfl
@[simp] theorem State.deliverBit_buzz (s : State) (b : Level) : (s.deliverBit b).buzz = s.buzz := by
  unfold State.deliverBit; repeat' split
  all_goals rfl
@[simp] theorem State.deliverBit_phase (s : State) (b : Level) : (s.deliverBit b).phase = s.phase := by
  unfold State.deliverBit; repeat' split
  all_goals rfl
@[simp] theorem State.deliverBit_upc (s : State) (b : Level) : (s.deliverBit b).upc = s.upc := by
  unfold State.deliverBit; repeat' split
  all_goals rfl
@[simp] theorem State.deliverBit_alarm (s : State) (b : Level) : (s.deliverBit b).alarm = s.alarm := by
  unfold State.deliverBit; repeat' split
  all_goals rfl
@[simp] theorem State.deliverBit_stopReq (s : State) (b : Level) : (s.deliverBit b).stopReq = s.stopReq := by
  unfold State.deliverBit; repeat' split
  all_goals rfl
@[simp] theorem State.deliverBit_status (s : State) (b : Level) : (s.deliverBit b).status = s.status := by
  unfold State.deliverBit; repeat' split
  all_goals rfl
@[simp] theorem State.deliverBit_snap (s : State) (b : Level) : (s.deliverBit b).snap = s.snap := by
  unfold State.deliverBit; repeat' split
  all_goals rfl
@[simp] theorem State.deliverBit_lines (s : State) (b : Level) : (s.deliverBit b).lines = s.lines := by
  unfold State.deliverBit; repeat' split
  all_goals rfl
@[simp] theorem State.deliverBit_trace (s : State) (b : Level) : (s.deliverBit b).trace = s.trace := by
  unfold State.deliverBit; repeat' split
  all_goals rfl
@[simp] theorem State.deliverBit_reports (s : State) (b : Level) : (s.deliverBit b).reports = s.reports := by
  unfold State.deliverBit; repeat' split
  all_goals rfl
@[simp] theorem State.deliverBit_view (s : State) (b : Level) : (s.deliverBit b).view = s.view := by
  unfold State.deliverBit; repeat' split
  all_goals rfl
@[simp] theorem State.deliverBit_result (s : State) (b : Level) : (s.deliverBit b).result = s.result := by
  unfold State.deliverBit; repeat' split
  all_goals rfl
@[simp] theorem State.deliverBit_env (s : State) (b : Level) : (s.deliverBit b).env = s.env := by
  unfold State.deliverBit; repeat' split
  all_goals rfl

@[simp] theorem State.advance_cfg (s : State) : (s.advance).cfg = s.cfg := by
  unfold State.advance; repeat' split
  all_goals rfl
@[simp] theorem State.advance_acc (s : State) : (s.advance).acc = s.acc := by
  unfold State.advance; repeat' split
  all_goals rfl
@[simp] theorem State.advance_ch (s : State) : (s.advance).ch = s.ch := by
  unfold State.advance; repeat' split
  all_goals rfl
@[simp] theorem State.advance_rawT (s : State) : (s.advance).rawT = s.rawT := by
  unfold State.advance; repeat' split
  all_goals rfl
@[simp] theorem State.advance_rawA (s : State) : (s.advance).rawA = s.rawA := by
  unfold State.advance; repeat' split
  all_goals rfl
@[simp] theorem State.advance_tempValid (s : State) : (s.advance).tempValid = s.tempValid := by
  unfold State.advance; repeat' split
  all_goals rfl
@[simp] theorem State.advance_temp (s : State) : (s.advance).temp = s.temp := by
  unfold State.advance; repeat' split
  all_goals rfl
@[simp] theorem State.advance_thresh (s : State) : (s.advance).thresh = s.thresh := by
  unfold State.advance; repeat' split
  all_goals rfl
@[simp] theorem State.advance_light (s : State) : (s.advance).light = s.light := by
  unfold State.advance; repeat' split
  all_goals rfl
@[simp] theorem State.advance_alarmSeen (s : State) : (s.advance).alarmSeen = s.alarmSeen := by
  unfold State.advance; repeat' split
  all_goals rfl
@[simp] theorem State.advance_buzz (s : State) : (s.advance).buzz = s.buzz := by
  unfold State.advance; repeat' split
  all_goals rfl
@[simp] theorem State.advance_alarm (s : State) : (s.advance).alarm = s.alarm := by
  unfold State.advance; repeat' split
  all_goals rfl
@[simp] theorem State.advance_stopReq (s : State) : (s.advance).stopReq = s.stopReq := by
  unfold State.advance; repeat' split
  all_goals rfl
@[simp] theorem State.advance_snap (s : State) : (s.advance).snap = s.snap := by
  unfold State.advance; repeat' split
  all_goals rfl
@[simp] theorem State.advance_lines (s : State) : (s.advance).lines = s.lines := by
  unfold State.advance; repeat' split
  all_goals rfl
@[simp] theorem State.advance_trace (s : State) : (s.advance).trace = s.trace := by
  unfold State.advance; repeat' split
  all_goals rfl
@[simp] theorem State.advance_reports (s : State) : (s.advance).reports = s.reports := by
  unfold State.advance; repeat' split
  all_goals rfl
@[simp] theorem State.advance_view (s : State) : (s.advance).view = s.view := by
  unfold State.advance; repeat' split
  all_goals rfl
@[simp] theorem State.advance_result (s : State) : (s.advance).result = s.result := by
  unfold State.advance; repeat' split
  all_goals rfl
@[simp] theorem State.advance_env (s : State) : (s.advance).env = s.env := by
  unfold State.advance; repeat' split
  all_goals rfl

@[simp] theorem State.leaveIdle_cfg (s : State) : (s.leaveIdle).cfg = s.cfg := by
  unfold State.leaveIdle; repeat' split
  all_goals rfl
@[simp] theorem State.leaveIdle_acc (s : State) : (s.leaveIdle).acc = s.acc := by
  unfold State.leaveIdle; repeat' split
  all_goals rfl
@[simp] theorem State.leaveIdle_rawT (s : State) : (s.leaveIdle).rawT = s.rawT := by
  unfold State.leaveIdle; repeat' split
  all_goals rfl
@[simp] theorem State.leaveIdle_rawA (s : State) : (s.leaveIdle).rawA = s.rawA := by
  unfold State.leaveIdle; repeat' split
  all_goals rfl
@[simp] theorem State.leaveIdle_tempValid (s : State) : (s.leaveIdle).tempValid = s.tempValid := by
  unfold State.leaveIdle; repeat' split
  all_goals rfl
@[simp] theorem State.leaveIdle_temp (s : State) : (s.leaveIdle).temp = s.temp := by
  unfold State.leaveIdle; repeat' split
  all_goals rfl
@[simp] theorem State.leaveIdle_thresh (s : State) : (s.leaveIdle).thresh = s.thresh := by
  unfold State.leaveIdle; repeat' split
  all_goals rfl
@[simp] theorem State.leaveIdle_light (s : State) : (s.leaveIdle).light = s.light := by
  unfold State.leaveIdle; repeat' split
  all_goals rfl
@[simp] theorem State.leaveIdle_alarmSeen (s : State) : (s.leaveIdle).alarmSeen = s.alarmSeen := by
  unfold State.leaveIdle; repeat' split
  all_goals rfl
@[simp] theorem State.leaveIdle_buzz (s : State) : (s.leaveIdle).buzz = s.buzz := by
  unfold State.leaveIdle; repeat' split
  all_goals rfl
@[simp] theorem State.leaveIdle_alarm (s : State) : (s.leaveIdle).alarm = s.alarm := by
  unfold State.leaveIdle; repeat' split
  all_goals rfl
@[simp] theorem State.leaveIdle_stopReq (s : State) : (s.leaveIdle).stopReq = s.stopReq := by
  unfold State.leaveIdle; repeat' split
  all_goals rfl
@[simp] theorem State.leaveIdle_status (s : State) : (s.leaveIdle).status = s.status := by
  unfold State.leaveIdle; repeat' split
  all_goals rfl
@[simp] theorem State.leaveIdle_snap (s : State) : (s.leaveIdle).snap = s.snap := by
  unfold State.leaveIdle; repeat' split
  all_goals rfl
@[simp] theorem State.leaveIdle_lines (s : State) : (s.leaveIdle).lines = s.lines := by
  unfold State.leaveIdle; repeat' split
  all_goals rfl
@[simp] theorem State.leaveIdle_trace (s : State) : (s.leaveIdle).trace = s.trace := by
  unfold State.leaveIdle; repeat' split
  all_goals rfl
@[simp] theorem State.leaveIdle_reports (s : State) : (s.leaveIdle).reports = s.reports := by
  unfold State.leaveIdle; repeat' split
  all_goals rfl
@[simp] theorem State.leaveIdle_view (s : State) : (s.leaveIdle).view = s.view := by
  unfold State.leaveIdle; repeat' split
  all_goals rfl
@[simp] theorem State.leaveIdle_result (s : State) : (s.leaveIdle).result = s.result := by
  unfold State.leaveIdle; repeat' split
  all_goals rfl
@[simp] theorem State.leaveIdle_env (s : State) : (s.leaveIdle).env = s.env := by
  unfold State.leaveIdle; repeat' split
  all_goals rfl

end Sys2Proof.Machine
end

