-- ==== Sys2Proof/Laws/Ops.lean ====
section
/-! SUPPORT. One lemma per shared operation that says all it can do: the script, the lines, a port operation, a CTRL
step, a transaction. -/

namespace Sys2Proof.Machine

/-! ## The script -/

theorem getD_tail {α : Type} (l : List α) (k : Nat) (d : α) : l.tail.getD k d = l.getD (k + 1) d := by
  cases l <;> simp

theorem State.answerAt_congr {s t : State} (h : t.env = s.env) (k : Nat) : t.answerAt k = s.answerAt k := by
  simp [State.answerAt, h]

theorem State.answerAt_dropAnswer {s t : State} (h : t.env = s.env.dropAnswer) (k : Nat) :
    t.answerAt k = s.answerAt (k + 1) := by
  rw [State.answerAt, State.answerAt, h]
  simp only [Env.dropAnswer, getD_tail]
  rw [show s.env.answerDraws + 1 + k = s.env.answerDraws + (k + 1) by omega]

theorem State.eventAt_congr {s t : State} (h : t.env = s.env) (k : Nat) : t.eventAt k = s.eventAt k := by
  simp [State.eventAt, h]

theorem State.eventAt_consumeEvent (s : State) (k : Nat) : s.consumeEvent.eventAt k = s.eventAt (k + 1) := by
  rw [State.eventAt, State.eventAt]
  simp only [State.consumeEvent, Env.dropEvent, getD_tail]
  rw [show s.env.eventDraws + 1 + k = s.env.eventDraws + (k + 1) by omega]

@[simp] theorem State.answerAt_consumeEvent (s : State) (k : Nat) : s.consumeEvent.answerAt k = s.answerAt k := rfl

/-- Answers of `PORT` leave the coming events as they are. -/
theorem State.eventAt_dropAnswer {s t : State} (h : t.env = s.env.dropAnswer) (k : Nat) : t.eventAt k = s.eventAt k := by
  rw [State.eventAt, State.eventAt, h]; rfl

/-! ## Lines -/

@[simp] theorem Lines.get_put (l : Lines) (p q : OutPin) (v : LineLevel) :
    (l.put p v).get q = if q = p then v else l.get q := by
  cases p <;> cases q <;> rfl

@[simp] theorem Lines.after_read (l : Lines) (p : InPin) (a : PortAnswer) : l.after (.read p) a = l := by
  cases a <;> rfl

@[simp] theorem Lines.after_set_ok (l : Lines) (p : OutPin) (v b : Level) :
    l.after (.set p v) (.ok b) = l.put p (.driven v) := rfl

@[simp] theorem Lines.after_set_ioFault (l : Lines) (p : OutPin) (v : Level) :
    l.after (.set p v) .ioFault = l.put p .unknown := rfl

/-! ## CTRL steps -/

theorem State.halted_eq_true (s : State) : s.halted = true ↔ s.phase = .stopped ∨ s.phase = .faulted := by
  unfold State.halted; cases s.phase <;> simp

theorem State.ctrlStep_halted {s : State} (h : s.halted = true) (f : State → Host.Outcome State Fault Refusal) :
    s.ctrlStep f = .next s := by
  simp [State.ctrlStep, h]

theorem State.ctrlStep_running {s : State} (h : s.halted = false) (f : State → Host.Outcome State Fault Refusal) :
    s.ctrlStep f = f s := by
  simp [State.ctrlStep, h]

/-- A step of `CTRL` leaves the machine as it is or does what its body does. -/
theorem State.ctrlStep_next {s t : State} {f : State → Host.Outcome State Fault Refusal}
    (h : s.ctrlStep f = .next t) : (s.halted = true ∧ t = s) ∨ (s.halted = false ∧ f s = .next t) := by
  by_cases hh : s.halted = true
  · rw [State.ctrlStep_halted hh] at h; injection h with h; exact .inl ⟨hh, h.symm⟩
  · have hh : s.halted = false := by simpa using hh
    rw [State.ctrlStep_running hh] at h; exact .inr ⟨hh, h⟩

/-! ## Port operations -/

theorem State.portOp_ok {s : State} {op : PortOp} {b : Level} (h : s.answerAt 0 = .ok b) (k : Level → State → State) :
    s.portOp op k = k b (s.answered op (.ok b)) := by
  simp [State.portOp, h]

theorem State.portOp_ioFault {s : State} {op : PortOp} (h : s.answerAt 0 = .ioFault) (k : Level → State → State) :
    s.portOp op k = (s.answered op .ioFault).enterFault .ioFault (popWord op) := by
  simp [State.portOp, h]

/-- A port operation goes on with the answered state, or enters the fault state. -/
theorem State.portOp_cases (s : State) (op : PortOp) (k : Level → State → State) :
    (∃ b, s.answerAt 0 = .ok b ∧ s.portOp op k = k b (s.answered op (.ok b))) ∨
    (s.answerAt 0 = .ioFault ∧ s.portOp op k = (s.answered op .ioFault).enterFault .ioFault (popWord op)) := by
  cases h : s.answerAt 0 with
  | ok b => exact .inl ⟨b, rfl, State.portOp_ok h k⟩
  | ioFault => exact .inr ⟨rfl, State.portOp_ioFault h k⟩

theorem State.microStep_ok {s : State} {op : PortOp} {b : Level} (h : s.answerAt 0 = .ok b) (k : State → State) :
    s.microStep op k = k ((s.answered op (.ok b)).microAcc op b) := by
  rw [State.microStep, State.portOp_ok h]

theorem State.microStep_ioFault {s : State} {op : PortOp} (h : s.answerAt 0 = .ioFault) (k : State → State) :
    s.microStep op k = (s.answered op .ioFault).enterFault .ioFault (popWord op) := by
  rw [State.microStep, State.portOp_ioFault h]

@[simp] theorem State.microAcc_read_acc (s : State) (p : InPin) (b : Level) :
    (s.microAcc (.read p) b).acc = shiftInBit s.acc b := rfl

theorem State.microAcc_set_acc (s : State) (p : OutPin) (l b : Level) :
    (s.microAcc (.set p l) b).acc = if s.upc = 0 then 0 else s.acc := by
  simp only [State.microAcc]; split <;> rfl

/-! ## Transactions -/

@[simp] theorem adcProgram_length (c : Channel) : (adcProgram c).length = 37 := by cases c <;> rfl

@[simp] theorem shutdownProgram_length : shutdownProgram.length = 4 := rfl

theorem State.runTransaction_single (s : State) (op : PortOp) :
    s.runTransaction [op] = s.microStep op fun t => { t with result := .sample t.acc } := rfl

theorem State.runTransaction_cons (s : State) (op op' : PortOp) (ops : List PortOp) :
    s.runTransaction (op :: op' :: ops) = s.microStep op fun t => t.nextMicro.runTransaction (op' :: ops) := rfl

/-- A read phase has a micro-step exactly at `UPC` 0 to 36. -/
theorem State.readPhase_spec (s : State) (finish : State → State) :
    (36 < s.upc.toNat ∧ s.readPhase finish = .fault .noMicroStep) ∨
    (∃ op, s.upc.toNat ≤ 36 ∧ (adcProgram s.ch)[s.upc.toNat]? = some op ∧
      s.readPhase finish = .next (s.microStep op fun t =>
        if t.upc.toNat < maxUpc .readT then t.nextMicro else finish t)) := by
  cases h : (adcProgram s.ch)[s.upc.toNat]? with
  | none =>
    have hlen := List.getElem?_eq_none_iff.mp h
    rw [adcProgram_length] at hlen
    exact .inl ⟨by omega, by simp [State.readPhase, h]⟩
  | some op =>
    obtain ⟨hlen, _⟩ := List.getElem?_eq_some_iff.mp h
    rw [adcProgram_length] at hlen
    exact .inr ⟨op, by omega, rfl, by simp [State.readPhase, h]⟩

end Sys2Proof.Machine
end

