-- ==== Sys2Proof/Laws/Decode.lean ====
section
/-! SUPPORT. What `step` can do: the word it takes always decodes, and the operation it runs is the one the phase or the
command names. -/

namespace Sys2Proof.Machine

@[simp] theorem decode_cmd (w : BitVec 2) : decode .cmd w.toNat = .ok (decodeCmd w) := by
  have : w.toNat < 2 ^ formatWidth .cmd := w.isLt
  simp [decode, this]

/-- The operation of a phase (10 R30, 30 R96); `none` for the terminal phases. -/
def phaseInstr : Phase → Option Instr
  | .idle => some .cycleStart
  | .readT => some .readT
  | .readA => some .readA
  | .eval => some .eval
  | .drive => some .drive
  | .publish => some .publish
  | .shutdown => some .shutdown
  | .stopped => none
  | .faulted => none

theorem decode_phaseCode {p : Phase} {i : Instr} (h : phaseInstr p = some i) :
    decode .phase (phaseCode p).toNat = .ok i := by
  cases p <;> simp [phaseInstr] at h <;> subst h <;> rfl

/-- The turn of `CTRL`: what its next step runs, if one is enabled without `TIMER`. -/
def State.ctrlInstr (s : State) : Option Instr :=
  if s.phase = .idle then (if s.stopReq then some .cycleStart else none) else phaseInstr s.phase

/-- One step, by the event it takes: a command, the timer, `CTRL`, or a step that runs no operation. -/
theorem step_spec (s : State) :
    step s = match s.eventAt 0 with
      | .cmd w => exec (decodeCmd w) s.consumeEvent
      | .tick => if s.phase = .idle then exec .cycleStart s.consumeEvent else .next s.consumeEvent
      | .ctrl => match s.ctrlInstr with
        | some i => exec i s.consumeEvent
        | none => .next s.consumeEvent
      | .viewSnap => .next (s.consumeEvent.noOperation .viewSnap)
      | .viewStatus => .next (s.consumeEvent.noOperation .viewStatus)
      | .reset => .next s.consumeEvent.resetNow := by
  unfold step State.fetch
  cases he : s.eventAt 0 with
  | cmd w => simp
  | viewSnap => rfl
  | viewStatus => rfl
  | reset => rfl
  | tick =>
    by_cases hp : s.phase = .idle
    · simp only [hp, if_true]; rw [decode_phaseCode (p := .idle) rfl]
    · simp only [hp, if_false]; rfl
  | ctrl =>
    cases hp : s.phase <;> cases hs : s.stopReq <;>
      simp [State.halted, State.ctrlInstr, hp, hs, phaseInstr, State.noOperation, phaseCode] <;> rfl

/-- A step never ends in a refusal but where the operation it runs does. -/
theorem fetch_decodes (s : State) (f : Format) (w : Nat) (h : s.fetch = some (f, w)) :
    ∃ i, decode f w = .ok i := by
  unfold State.fetch at h
  cases he : s.eventAt 0 <;> simp [he] at h
  · cases hp : s.phase <;> cases hs : s.stopReq <;> simp [State.halted, hp, hs, phaseCode] at h <;>
      (obtain ⟨rfl, rfl⟩ := h; exact ⟨_, rfl⟩)
  · obtain ⟨hp, rfl, rfl⟩ := h; rw [hp]; exact ⟨_, rfl⟩
  · obtain ⟨rfl, rfl⟩ := h; exact ⟨_, decode_cmd _⟩

end Sys2Proof.Machine
end

