-- ==== Sys2Proof/Laws/PerInstr.lean ====
section
/-! SUPPORT. The per-instruction family `EncodingFits`: the word the encoder gives a well-formed operation fits its format
(30 R80: "Every word of a format has exactly the length shown"). -/

namespace Sys2Proof.Laws.EncodingFits

/-- The encoded word of a well-formed operation fits the width of its format. -/
def Statement (i : Instr) : Prop := i.wellFormed = true → (encode i).2 < 2 ^ formatWidth (encode i).1

theorem setLine (p : OutPin) (l : Level) : Statement (.setLine p l) := fun _ => (popWord (.set p l)).isLt
theorem readLine (p : InPin) : Statement (.readLine p) := fun _ => (popWord (.read p)).isLt
theorem adcRead (ch : Nat) : Statement (.adcRead ch) := fun h => by
  have h2 : ch < 2 := Nat.blt_eq.mp h
  show 6 + ch < 8
  omega
theorem convTemp : Statement .convTemp := fun _ => by decide
theorem convThresh : Statement .convThresh := fun _ => by decide
theorem convLight : Statement .convLight := fun _ => by decide
theorem decide : Statement .decide := fun _ => by decide
theorem arm : Statement .arm := fun _ => by decide
theorem disarm : Statement .disarm := fun _ => by decide
theorem toggle : Statement .toggle := fun _ => by decide
theorem stop : Statement .stop := fun _ => by decide
theorem cycleStart : Statement .cycleStart := fun _ => by decide
theorem readT : Statement .readT := fun _ => by decide
theorem readA : Statement .readA := fun _ => by decide
theorem eval : Statement .eval := fun _ => by decide
theorem drive : Statement .drive := fun _ => by decide
theorem publish : Statement .publish := fun _ => by decide
theorem shutdown : Statement .shutdown := fun _ => by decide

end Sys2Proof.Laws.EncodingFits
end

