-- ==== Sys2Proof/Laws/Transaction.lean ====
section
/-! SUPPORT. What a whole transaction does when every port operation is answered `Ok`, by induction over its port
operations (41 R120, R126), and what it leaves unchanged whatever the answers are (60 R225). -/

namespace Sys2Proof.Machine

/-- What no port operation of a transaction writes, whatever `PORT` answers (40 R111, R112, 60 R225). -/
def State.TransactionFrame (s t : State) : Prop :=
  t.cfg = s.cfg ∧ t.ch = s.ch ∧ t.rawT = s.rawT ∧ t.rawA = s.rawA ∧ t.tempValid = s.tempValid ∧ t.temp = s.temp ∧
    t.thresh = s.thresh ∧ t.light = s.light ∧ t.alarmSeen = s.alarmSeen ∧ t.buzz = s.buzz ∧ t.alarm = s.alarm ∧
    t.stopReq = s.stopReq ∧ t.snap = s.snap ∧ t.view = s.view

/-- The continuation after a micro-step keeps the frame, so the micro-step does. -/
theorem State.microStep_frame {s : State} {op : PortOp} {k : State → State}
    (hk : ∀ t, State.TransactionFrame t (k t)) : State.TransactionFrame s (s.microStep op k) := by
  rcases h : s.answerAt 0 with b | _
  · rw [State.microStep_ok h]
    have := hk ((s.answered op (.ok b)).microAcc op b)
    simpa [State.TransactionFrame] using this
  · rw [State.microStep_ioFault h]
    simp [State.TransactionFrame]

theorem State.runTransaction_frame (ops : List PortOp) : ∀ s : State, State.TransactionFrame s (s.runTransaction ops) := by
  induction ops with
  | nil => intro s; simp [State.TransactionFrame, State.runTransaction]
  | cons op ops ih =>
    intro s
    cases ops with
    | nil => rw [State.runTransaction_single]; exact State.microStep_frame fun t => by simp [State.TransactionFrame]
    | cons op' ops =>
      rw [State.runTransaction_cons]
      refine State.microStep_frame fun t => ?_
      have := ih t.nextMicro
      simpa [State.TransactionFrame] using this

/-- The script after `n` answers have been used. -/
def Env.dropAnswers (e : Env) : Nat → Env
  | 0 => e
  | n + 1 => e.dropAnswer.dropAnswers n

theorem State.answerAt_dropAnswers {s t : State} (n : Nat) (h : t.env = s.env.dropAnswers n) (k : Nat) :
    t.answerAt k = s.answerAt (k + n) := by
  induction n generalizing s with
  | zero => exact State.answerAt_congr h k
  | succ n ih =>
    have := ih (s := { s with env := s.env.dropAnswer }) h
    rw [this, State.answerAt_dropAnswer (s := s) rfl]; rfl

theorem Env.dropAnswers_events (e : Env) (n : Nat) :
    (e.dropAnswers n).events = e.events ∧ (e.dropAnswers n).eventDraws = e.eventDraws := by
  induction n generalizing e with
  | zero => exact ⟨rfl, rfl⟩
  | succ n ih => exact ih e.dropAnswer

/-- The lines after port operations that are all answered `Ok`. -/
def okLines (l : Lines) : List PortOp → Lines
  | [] => l
  | op :: ops => okLines (l.after op (.ok false)) ops

theorem Lines.after_ok (l : Lines) (op : PortOp) (b : Level) : l.after op (.ok b) = l.after op (.ok false) := by
  cases op <;> rfl

theorem AnswersOk.tail {s t : State} {n : Nat} {bits : Nat → Level} (h : AnswersOk s (n + 1) bits)
    (ht : t.env = s.env.dropAnswer) : AnswersOk t n fun k => bits (k + 1) := fun k hk => by
  rw [State.answerAt_dropAnswer ht]; exact h (k + 1) (by omega)

/-- What a completed micro-step does to `ACC`, by the kind of its port operation, away from micro-step 0. -/
theorem State.microAcc_acc_of_upc_ne {s : State} (h : ¬ s.upc = 0#6) (op : PortOp) (b : Level) (bits : Nat → Level)
    (hb : bits 0 = b) : (s.microAcc op b).acc = (readBits [op] bits).foldl shiftInBit s.acc := by
  subst hb
  cases op with
  | set p l => rw [State.microAcc_set_acc]; exact if_neg h
  | read p => simp [readBits]

theorem readBits_cons (op : PortOp) (ops : List PortOp) (bits : Nat → Level) :
    readBits (op :: ops) bits = readBits [op] bits ++ readBits ops fun k => bits (k + 1) := by
  cases op <;> rfl

/-- All that a run of micro-steps does when every answer is `Ok` and it does not begin at micro-step 0: the trace, the
lines, the accumulator, the answers used; everything else is unchanged but `UPC`. -/
theorem State.runTransaction_ok (ops : List PortOp) : ∀ (op : PortOp) (s : State) (bits : Nat → Level),
    0 < s.upc.toNat → s.upc.toNat + ops.length < 64 → AnswersOk s (ops.length + 1) bits →
    let a := (readBits (op :: ops) bits).foldl shiftInBit s.acc
    s.runTransaction (op :: ops) =
      { s with
        acc := a
        result := .sample a
        upc := s.upc + BitVec.ofNat 6 ops.length
        trace := s.trace ++ okTrace (op :: ops) bits
        lines := okLines s.lines (op :: ops)
        env := s.env.dropAnswers (ops.length + 1) } := by
  induction ops with
  | nil =>
    intro op s bits h0 _ h
    have hne : ¬ s.upc = 0#6 := by intro e; rw [e] at h0; simp at h0
    have ha := h 0 (by simp)
    rw [State.runTransaction_single, State.microStep_ok ha]
    have hacc := State.microAcc_acc_of_upc_ne (s := s.answered op (.ok (bits 0))) hne op _ bits rfl
    cases op <;> simp_all [State.microAcc, State.answered, okTrace, okLines, Env.dropAnswers, readBits]
  | cons op' ops ih =>
    intro op s bits h0 hlen h
    have hne : ¬ s.upc = 0#6 := by intro e; rw [e] at h0; simp at h0
    have ha := h 0 (by simp)
    simp only [List.length_cons] at hlen h
    rw [State.runTransaction_cons, State.microStep_ok ha]
    have hacc := State.microAcc_acc_of_upc_ne (s := s.answered op (.ok (bits 0))) hne op _ bits rfl
    have hu : (s.upc + 1).toNat = s.upc.toNat + 1 := by
      rw [BitVec.toNat_add]; simp; omega
    have h1 := ih op' ((s.answered op (.ok (bits 0))).microAcc op (bits 0)).nextMicro (fun k => bits (k + 1))
      (by rw [State.nextMicro_upc, State.microAcc_upc, State.answered_upc]; omega)
      (by rw [State.nextMicro_upc, State.microAcc_upc, State.answered_upc]; omega) (h.tail (by simp))
    rw [h1, readBits_cons op, List.foldl_append]
    have hupc : s.upc + 1 + BitVec.ofNat 6 ops.length = s.upc + BitVec.ofNat 6 (ops.length + 1) := by
      rw [BitVec.ofNat_add]; ac_rfl
    simp only [State.nextMicro_acc, hacc, State.answered_acc, State.nextMicro_upc, State.microAcc_upc,
      State.answered_upc, hupc, List.length_cons, State.nextMicro_trace, State.microAcc_trace, State.answered_trace,
      State.nextMicro_lines, State.microAcc_lines, State.answered_lines, State.nextMicro_env, State.microAcc_env,
      State.answered_env]
    cases op with
    | read p => simp [State.microAcc, State.answered, State.nextMicro, okTrace, okLines, Env.dropAnswers]
    | set p l =>
      simp [State.microAcc, State.answered, State.nextMicro, okTrace, okLines, Env.dropAnswers, hne]

end Sys2Proof.Machine
end

