-- ==== Sys2Proof/Tests/Slice0.lean ====
section
/-! SUPPORT. Tests: the ill-formed term, words written out from 30 R81, R85, R87 and 10 R30, vectors of 95, and for every
statement with hypotheses a state and operands that meet them. Expected values are the spec's. -/

namespace Sys2Proof.Tests

open Sys2Proof Sys2Proof.Machine

/-! ## Helpers -/

/-- The machine after reset, moved to a position, with a script of events and answers. -/
def at' (p : Phase) (u : BitVec 6) (ev : List Event) (an : List PortAnswer) : State :=
  { State.reset with phase := p, upc := u, env := ⟨ev, 0, an, 0⟩ }

/-- One field of the next state, if there is one. -/
def after {α : Type} (o : Host.Outcome State Fault Refusal) (f : State → α) : Option α :=
  match o with
  | .next t => some (f t)
  | .fault _ => none
  | .refused _ => none

/-- What two fields show side by side. -/
def both {α β : Type} (f : State → α) (g : State → β) (s : State) : α × β := (f s, g s)

/-- Thirty-seven answers `Ok` with the given bits at the eight reads (41 R123). -/
def answersFor (bits : List Level) : List PortAnswer :=
  List.replicate 12 (.ok false) ++ bits.flatMap (fun b => [.ok false, .ok false, .ok b]) ++ [.ok false]

/-- A step or an operation goes on. -/
def goesOn (o : Host.Outcome State Fault Refusal) : Bool :=
  match o with
  | .next _ => true
  | .fault _ => false
  | .refused _ => false

theorem next_of_goesOn {o : Host.Outcome State Fault Refusal} (h : goesOn o = true) : ∃ t, o = .next t := by
  cases o with
  | next t => exact ⟨t, rfl⟩
  | fault r => cases h
  | refused r => cases h

/-! ## WellFormed -/

theorem test_wellFormed_refuses_channel2 : (Instr.adcRead 2).wellFormed = false := rfl
theorem test_wellFormed_refuses_channel255 : (Instr.adcRead 255).wellFormed = false := rfl
theorem test_wellFormed_accepts_channels : (Instr.adcRead 0).wellFormed = true ∧ (Instr.adcRead 1).wellFormed = true :=
  ⟨rfl, rfl⟩
theorem test_wellFormed_accepts_the_rest :
    [Instr.setLine .buz true, .readLine .dout, .convTemp, .convThresh, .convLight, .decide, .arm, .disarm, .toggle, .stop,
      .cycleStart, .readT, .readA, .eval, .drive, .publish, .shutdown].all Instr.wellFormed = true := rfl
/-- A cut of 257 and a threshold above `THRESH_MAX` are refused (42 R146, 00 R8). -/
theorem test_config_refuses : { refcfg with lightCut := 257 }.wellFormed (refCalibration : Calibration ℚ) = false ∧
    { refcfg with threshReset := 0x00320001 }.wellFormed (refCalibration : Calibration ℚ) = false ∧
    { refcfg with tempRom := [] }.wellFormed (refCalibration : Calibration ℚ) = false := by
  decide +kernel
/-- 42 R146: such a configuration is refused at construction. -/
theorem test_construct_refuses [Decidable (Config.Accepted { refcfg with lightCut := 257 } refCalibration)] :
    State.construct refCalibration { refcfg with lightCut := 257 } = .refused .illFormedConfig := by
  refine if_neg fun h => ?_
  have h := h.1
  rw [← refCalibration_toReal, Config.wellFormed_toReal, test_config_refuses.1] at h
  cases h
theorem test_config_accepts_refcfg : refcfg.wellFormed (refCalibration : Calibration ℝ) = true := by
  rw [← refCalibration_toReal, Config.wellFormed_toReal]; decide +kernel

/-! ## Words, written out from the spec's formats -/

/-- 30 R85: `0 000 0`, `0 000 1`, `0 001 0`, `0 001 1`. -/
theorem test_decode_setLine_clk_din : decode .pop 0b00000 = .ok (.setLine .clk false) ∧
    decode .pop 0b00001 = .ok (.setLine .clk true) ∧ decode .pop 0b00010 = .ok (.setLine .din false) ∧
    decode .pop 0b00011 = .ok (.setLine .din true) := by decide
/-- 30 R85: `0 011 0`, `0 011 1`, `0 100 0`, `0 100 1`. -/
theorem test_decode_setLine_cs_buz : decode .pop 0b00110 = .ok (.setLine .cs false) ∧
    decode .pop 0b00111 = .ok (.setLine .cs true) ∧ decode .pop 0b01000 = .ok (.setLine .buz false) ∧
    decode .pop 0b01001 = .ok (.setLine .buz true) := by decide
/-- 30 R85: `1 010 0`. -/
theorem test_decode_readLine : decode .pop 0b10100 = .ok (.readLine .dout) := by decide
/-- 30 R86: `SET_LINE` on `DOUT` and on the buttons, `READ_LINE` on `CLK`, `READ_LINE` with `L = 1`, pin 7. -/
theorem test_decode_pop_reserved : [0b00100, 0b01010, 0b01101, 0b10000, 0b10101, 0b01110].all (fun w =>
    decide (decode .pop w = .error .reservedPop)) = true := by decide
/-- 30 R81: `START SGL CHSEL`. -/
theorem test_decode_adcRead : decode .aframe 0b110 = .ok (.adcRead 0) ∧ decode .aframe 0b111 = .ok (.adcRead 1) := by
  decide
theorem test_decode_frame_reserved : [0b000, 0b010, 0b100, 0b101].all (fun w =>
    decide (decode .aframe w = .error .reservedFrame)) = true := by decide
/-- 30 R87. -/
theorem test_decode_cmd : decode .cmd 0b00 = .ok .arm ∧ decode .cmd 0b01 = .ok .disarm ∧
    decode .cmd 0b10 = .ok .toggle ∧ decode .cmd 0b11 = .ok .stop := by decide
/-- 10 R30. -/
theorem test_decode_phase : decode .phase 0b0000 = .ok .cycleStart ∧ decode .phase 0b0001 = .ok .readT ∧
    decode .phase 0b0010 = .ok .readA ∧ decode .phase 0b0011 = .ok .eval ∧ decode .phase 0b0100 = .ok .drive ∧
    decode .phase 0b0101 = .ok .publish ∧ decode .phase 0b0110 = .ok .shutdown := by decide
theorem test_decode_phase_rejected : decode .phase 7 = .error .terminalPhase ∧ decode .phase 8 = .error .terminalPhase ∧
    decode .phase 9 = .error .reservedPhase ∧ decode .phase 15 = .error .reservedPhase ∧
    decode .phase 16 = .error .tooWide := by decide
/-- 30 R96: the four parts of `EVAL` have only its word. -/
theorem test_encode_parts_of_eval : [Instr.convTemp, .convThresh, .convLight, .decide].all (fun i =>
    decide (encode i = (.phase, 0b0011))) = true := by decide
theorem test_decodeTableWord : decodeTableWord 5 0x14 = some (.readLine .dout) ∧ decodeTableWord 3 6 = some (.adcRead 0) ∧
    decodeTableWord 2 2 = some .toggle ∧ decodeTableWord 4 6 = some .shutdown ∧ decodeTableWord 8 5 = some .publish ∧
    decodeTableWord 8 0x14 = some (.readLine .dout) ∧ decodeTableWord 8 0x10 = none := by decide

/-- 30 R92, row by row: the value 0, then the value 1. -/
theorem test_R92 : [AlarmState.disarmed, .armed].map alarmBit = [false, true] ∧
    [BuzzerOutput.off, .on].map buzzerBit = [false, true] ∧ [LightClass.dark, .light].map lightBit = [false, true] ∧
    [PotDirection.increasing, .decreasing].map potDirectionBit = [false, true] := by decide

/-! ## Vectors of 95 -/

/-- O1, with `LINE[CS]` and the next micro-step. -/
theorem test_O1 : after (exec (.setLine .cs true) (at' .readT 0 [] [.ok true])) (both (fun t => t.lines.cs) (·.upc)) =
    some (.driven true, 1) := by decide
/-- O4. -/
theorem test_O4 : after (exec (.setLine .clk true) (at' .readT 4 [] [.ioFault]))
    (both (fun t => t.lines.clk) fun t => statusFop t.status) = some (.unknown, 0x01) := by decide
/-- O7: `ACC = 0xFF`, answer `Ok(0)`. -/
theorem test_O7 : after (exec (.readLine .dout) { at' .readT 14 [] [.ok false] with acc := 0xFF })
    (both (·.acc) (·.result)) = some (0xFE, .bit false) := by decide
/-- O6. -/
theorem test_O6 : after (exec (.readLine .dout) { at' .readT 14 [] [.ioFault] with acc := 0xFF })
    (both (·.acc) fun t => statusFop t.status) = some (0xFF, 0x14) := by decide
/-- A3, started with `ACC = 0xFF`. -/
theorem test_A3 : after (exec (.adcRead 0)
    { at' .readT 0 [] (answersFor [true, false, true, false, false, true, false, true]) with acc := 0xFF })
    (both (·.acc) (·.lines)) = some (0xA5, ⟨.driven false, .driven false, .driven true, .undriven⟩) := by decide +kernel
/-- A7. -/
theorem test_A7 : after (exec (.adcRead 2) (at' .readT 0 [] [])) (both (·.trace) (·.status)) =
    some ([], packStatus 2 3 0 1 0) := by decide
/-- T9 and T1. -/
theorem test_T9 : after (exec .convTemp { at' .eval 0 [] [] with rawT := 0x80 }) (·.result) =
    some (.temp (.ok 0x0018D2D7)) := by decide +kernel
theorem test_T1 : after (exec .convTemp { at' .eval 0 [] [] with rawT := 0xFF }) (·.result) =
    some (.temp .conversionFault) := by decide +kernel
/-- H6 and H2. -/
theorem test_H6 : after (exec .convThresh { at' .eval 0 [] [] with rawA := 0x80 }) (·.result) =
    some (.thresh 0x00003232) := by decide +kernel
theorem test_H2 : after (exec .convThresh { at' .eval 0 [] [] with rawA := 1 }) (·.result) =
    some (.thresh 0xFFCE6464) := by decide +kernel
/-- L2 and L3. -/
theorem test_L2 : after (exec .convLight { at' .eval 0 [] [] with rawA := 127 }) (·.result) = some (.light .light) := by
  decide
theorem test_L3 : after (exec .convLight { at' .eval 0 [] [] with rawA := 128 }) (·.result) = some (.light .dark) := by
  decide
/-- D10 and D11: an unsigned comparator would give the opposite. -/
theorem test_D10 : decideBuzzer .armed true 0x7FFFFFFF 0x80000000 = .on ∧
    decideBuzzer .armed true 0x80000000 0x7FFFFFFF = .off := by decide
/-- D4: equal, strict comparison. -/
theorem test_D4 : after (exec .decide { at' .eval 0 [] [] with
      alarmSeen := .armed, tempValid := true, temp := 0x00190000, thresh := 0x00190000, buzz := .on }) (·.buzz) =
    some .off := by decide
/-- K8 to K10 in small: each command on both values of `ALARM`. -/
theorem test_arm : after (exec .arm (at' .faulted 0 [] [])) (·.alarm) = some .armed := by decide
theorem test_disarm : after (exec .disarm { at' .drive 0 [] [] with alarm := .armed, buzz := .on })
    (both (·.alarm) (·.buzz)) = some (.disarmed, .on) := by decide
theorem test_toggle : after (exec .toggle { at' .idle 0 [] [] with alarm := .armed }) (·.alarm) = some .disarmed := by
  decide
/-- K11. -/
theorem test_K11 : after (exec .stop { at' .readA 20 [] [] with alarm := .armed }) (both (·.alarm) (·.stopReq)) =
    some (.armed, true) := by decide
/-- S1 and S2, as steps of the machine. -/
theorem test_S1 : after (step { at' .idle 0 [.tick] [] with ch := .ch1 }) (both (·.phase) (·.ch)) =
    some (.readT, .ch0) := by decide
theorem test_S2 : after (step { at' .idle 0 [.tick] [] with stopReq := true }) (both (·.phase) (·.upc)) =
    some (.shutdown, 0) := by decide
/-- Row 14 of 41 R123, and F8's fault at row 35 (its `STATUS`). -/
theorem test_readT_row14 : after (step { at' .readT 14 [.ctrl] [.ok true] with acc := 0x29 }) (both (·.acc) (·.upc)) =
    some (0x53, 15) := by decide
theorem test_F8 : after (step { at' .readT 35 [.ctrl] [.ioFault] with acc := 0x52 }) (both (·.acc) (·.status)) =
    some (0x52, 0x46346) := by decide
/-- Row 36 of `READ_A` (45 R194), and P4's `STATUS`. -/
theorem test_readA_row36 : after (step { at' .readA 36 [.ctrl] [.ok false] with acc := 0x5A }) (both (·.rawA) (·.phase)) =
    some (0x5A, .eval) := by decide
theorem test_P4_status : after (step (at' .readA 14 [.ctrl] [.ioFault])) (·.status) = some 0x1C546 := by decide
/-- The example of 45 R195, and P2's cycle 2: the reading is kept, `LIGHT` is not. -/
theorem test_eval_R195 : after (step { at' .eval 0 [.ctrl] [] with rawT := 128, rawA := 128, alarm := .armed })
    (both (both (·.temp) (·.thresh)) (both (·.light) (·.buzz))) = some ((0x0018D2D7, 0x00003232), (.dark, .on)) := by
  decide +kernel
theorem test_eval_P2 : after (step { at' .eval 0 [.ctrl] [] with
      rawT := 0xFF, rawA := 0xFF, alarm := .armed, tempValid := true, temp := 0x00233340, thresh := 0xFFE71919,
      light := .light }) (both (both (·.temp) (·.thresh)) (both (·.light) (·.buzz))) =
    some ((0x00233340, 0xFFE71919), (.dark, .on)) := by decide +kernel
/-- S3 and S5. -/
theorem test_S3 : after (step { at' .drive 0 [.ctrl] [.ok false] with buzz := .on })
    (both (fun t => t.lines.buz) (both (·.phase) (·.trace))) = some (.driven true, (.publish, [⟨0x09, .ok⟩])) := by decide
theorem test_S5 : after (step { at' .drive 0 [.ctrl] [.ioFault] with buzz := .on })
    (both (fun t => t.lines.buz) (both (·.phase) (·.status))) = some (.unknown, (.faulted, 0x00896)) := by decide
/-- S6 and S7. -/
theorem test_S6 : after (step { at' .publish 0 [.ctrl] [] with
      light := .dark, buzz := .on, alarmSeen := .armed, tempValid := true, temp := 0x0018D2D7, thresh := 0x00003232 })
    (both (·.snap) (·.phase)) = some (0x70018D2D700003232, .idle) := by decide
theorem test_S7 : after (step { at' .publish 0 [.ctrl] [] with
      light := .light, buzz := .off, alarmSeen := .armed, tempValid := false, temp := 0, thresh := 0x00320000 })
    (·.snap) = some 0xA0000000000320000 := by decide
/-- S8's last micro-step, and S9. -/
theorem test_S8 : after (step (at' .shutdown 3 [.ctrl] [.ok false])) (both (·.phase) (both (·.status) (·.trace))) =
    some (.stopped, (0x00001, [⟨0x02, .ok⟩])) := by decide
theorem test_S9 : after (step (at' .shutdown 1 [.ctrl] [.ioFault])) (both (·.phase) (·.status)) =
    some (.faulted, 0x02C76) := by decide
/-- P6: the snapshot after reset. -/
theorem test_reset_snap : State.reset.snap = 0x00000000000320000 := by decide

/-! ## `withFetchWord` -/

/-- The word placed is the one the next step takes. -/
theorem test_withFetchWord_fetch : (State.reset.withFetchWord 4 3).fetch = some (.phase, 3) ∧
    (State.reset.withFetchWord 2 1).fetch = some (.cmd, 1) ∧ (State.reset.withFetchWord 4 0).fetch = some (.phase, 0) := by
  decide
/-- 45 R194: `READ_A` placed at reset runs on channel `1 − TEMP_CHANNEL`; its first step keeps it. -/
theorem test_withFetchWord_readA : after (step ((at' .idle 0 [] [.ok true]).withFetchWord 4 2)) (both (·.upc) (·.ch)) =
    some (1, .ch1) := by decide
/-- A placed `POP` word is the port operation of the next step, for each of the nine. -/
theorem test_withFetchWord_pop :
    [0x00, 0x01, 0x02, 0x03, 0x06, 0x07, 0x08, 0x09, 0x14].all (fun w =>
      decide (after (step ((at' .idle 0 [] [.ok true]).withFetchWord 5 w)) (fun t => t.trace.map TraceEntry.word) =
        some [BitVec.ofNat 5 w])) = true := by decide +kernel

/-! ## Witnesses for the hypotheses of the statements -/

theorem witness_DecodeReadsBackEveryEncoding : (Instr.adcRead 1).wellFormed = true ∧ (Instr.adcRead 1).hasOwnWord = true ∧
    (Instr.setLine .buz true).wellFormed = true ∧ (Instr.setLine .buz true).hasOwnWord = true := ⟨rfl, rfl, rfl, rfl⟩
theorem witness_EveryWordHasOneMeaning : decode .pop 0x14 = .ok (.readLine .dout) ∧ decode .phase 6 = .ok .shutdown := by
  decide
theorem witness_StepRunsTheDecodedOperation :
    (at' .readT 36 [.ctrl] []).eventAt 0 = .ctrl ∧ (at' .readT 36 [.ctrl] []).phase = .readT ∧
    (at' .shutdown 3 [.ctrl] []).eventAt 0 = .ctrl ∧ (at' .shutdown 3 [.ctrl] []).phase = .shutdown ∧
    (at' .stopped 0 [.cmd 3] []).eventAt 0 = .cmd 0b11 ∧ (at' .readA 20 [.cmd 0] []).eventAt 0 = .cmd 0b00 ∧
    (at' .idle 0 [.tick] []).phase = .idle ∧ (at' .idle 0 [.tick] []).eventAt 0 = .tick ∧
    { at' .idle 0 [.ctrl] [] with stopReq := true }.eventAt 0 = .ctrl ∧
    { at' .idle 0 [.ctrl] [] with stopReq := true }.stopReq = true := by decide
theorem witness_LegalPositionsNeverFault : PositionLegal (at' .readT 36 [.ctrl] []) ∧
    PositionLegal (at' .shutdown 3 [.ctrl] []) ∧ PositionLegal (at' .eval 0 [.ctrl] []) := by
  unfold PositionLegal; decide
theorem witness_IdleWaitsForTheTimer :
    ((at' .idle 0 [.ctrl] []).eventAt 0 = .ctrl ∧ (at' .idle 0 [.ctrl] []).phase = .idle ∧
      (at' .idle 0 [.ctrl] []).stopReq = false) ∧
    ((at' .readA 20 [.tick] []).eventAt 0 = .tick ∧ (at' .readA 20 [.tick] []).phase ≠ .idle) := by decide
theorem witness_ViewReadsWholeRegisters : (at' .drive 0 [.viewSnap] []).eventAt 0 = .viewSnap ∧
    (at' .faulted 0 [.viewStatus] []).eventAt 0 = .viewStatus := by decide
theorem witness_ResetLeavesTheTableOfValues : ∃ (c : Config) (t : State), t = State.resetWith c :=
  ⟨refcfg, State.reset, rfl⟩
theorem witness_ResetLeavesEveryState : (at' .faulted 0 [.reset] []).eventAt 0 = .reset ∧
    (at' .readT 20 [.reset] []).eventAt 0 = .reset := by decide
theorem witness_ToggleInvertsAlarmOnly : (∃ t, exec .toggle (at' .idle 0 [] []) = .next t) ∧
    (∃ t u, exec .arm (at' .idle 0 [] []) = .next t ∧ exec .toggle t = .next u) ∧
    ∃ t u, exec .toggle (at' .idle 0 [] []) = .next t ∧ exec .arm t = .next u :=
  ⟨⟨_, rfl⟩, ⟨_, _, rfl, rfl⟩, ⟨_, _, rfl, rfl⟩⟩
theorem witness_armed_and_stopped : { at' .idle 0 [] [] with alarm := .armed }.alarm = .armed ∧
    (at' .idle 0 [] []).alarm = .disarmed ∧ { at' .idle 0 [] [] with stopReq := true }.stopReq = true := ⟨rfl, rfl, rfl⟩
/-- Every operation answers a next state somewhere (the statements about 'whatever operation answers a next state'). -/
theorem witness_AlarmTransitionTable :
    [Instr.setLine .cs true, .readLine .dout, .adcRead 0, .convTemp, .convThresh, .convLight, .decide, .arm, .disarm,
      .toggle, .stop, .cycleStart, .readT, .readA, .eval, .drive, .publish, .shutdown].all (fun i =>
        goesOn (exec i (at' .readT 0 [] [.ok true]))) = true := by decide +kernel
theorem witness_StopSetsStopReqOnly : { at' .eval 0 [] [] with stopReq := true }.stopReq = true ∧
    ∃ t, exec .eval { at' .eval 0 [] [] with stopReq := true } = .next t := ⟨rfl, next_of_goesOn rfl⟩
theorem witness_CommandsTouchOnlyTheLatches : (at' .drive 0 [.cmd 0] []).eventAt 0 = .cmd 0 ∧
    (at' .faulted 0 [.cmd 3] []).eventAt 0 = .cmd 3 := by decide
theorem witness_StopReqIsSticky : (at' .idle 0 [.cmd 3] []).eventAt 0 ≠ .reset ∧ ∃ t, step (at' .idle 0 [.cmd 3] []) = .next t :=
  ⟨by decide, next_of_goesOn (by decide)⟩
theorem witness_SetLineResult : (at' .shutdown 3 [] [.ok true]).halted = false ∧
    (at' .shutdown 3 [] [.ok true]).answerAt 0 = .ok true ∧ (at' .readT 36 [] [.ioFault]).halted = false ∧
    (at' .readT 36 [] [.ioFault]).answerAt 0 = .ioFault := by decide
theorem witness_ReadLineResult : (at' .readT 14 [] [.ok true]).halted = false ∧
    (at' .readT 14 [] [.ok true]).answerAt 0 = .ok true ∧ (at' .idle 0 [] [.ok false]).halted = false ∧
    (at' .idle 0 [] [.ok false]).answerAt 0 = .ok false ∧ (at' .readA 35 [] [.ioFault]).halted = false ∧
    (at' .readA 35 [] [.ioFault]).answerAt 0 = .ioFault := by decide
theorem witness_IoFaultEntry : (at' .readT 36 [] [.ioFault]).halted = false ∧
    portOpOf (at' .readT 36 [] [.ioFault]) .readT = some (.set .cs true) ∧
    portOpOf (at' .readA 14 [] [.ioFault]) .readA = some (.read .dout) ∧
    portOpOf (at' .drive 0 [] [.ioFault]) .drive = some (.set .buz false) ∧
    portOpOf (at' .shutdown 3 [] [.ioFault]) .shutdown = some (.set .din false) ∧
    (at' .readT 36 [] [.ioFault]).answerAt 0 = .ioFault := by decide
theorem witness_AtMostOnePortOperationPerStep : (at' .drive 0 [.ctrl] [.ok true]).eventAt 0 ≠ .reset ∧
    ∃ t, step (at' .drive 0 [.ctrl] [.ok true]) = .next t := ⟨by decide, next_of_goesOn (by decide)⟩
theorem witness_InvalidChannelIsRejected : 2 ≤ 2 ∧ (at' .idle 0 [] []).halted = false := by decide
/-- Eight reads answered with the bits of `0xA5` (vector A3). -/
def bitsA5 (k : Nat) : Level := [14, 20, 29, 35].contains k
theorem witness_AdcReadCompletes :
    (at' .readT 0 [] (answersFor [true, false, true, false, false, true, false, true])).halted = false ∧
    AnswersOk (at' .readT 0 [] (answersFor [true, false, true, false, false, true, false, true])) 37 bitsA5 := by
  unfold AnswersOk; decide +kernel
theorem witness_AdcReadAbandonedAtFirstIoFault :
    (∀ u ∈ [0, 1, 2, 35, 36], (at' .readT 0 [] (List.replicate u (.ok true) ++ [.ioFault])).halted = false ∧ u < 37 ∧
      (∀ k, k < u → (at' .readT 0 [] (List.replicate u (.ok true) ++ [.ioFault])).answerAt k = .ok true) ∧
      (at' .readT 0 [] (List.replicate u (.ok true) ++ [.ioFault])).answerAt u = .ioFault) := by decide +kernel
theorem witness_AdcReadIndependentOfHistory :
    (at' .readT 0 [] (List.replicate 37 (.ok true))).halted = false ∧
    { at' .drive 0 [] (List.replicate 37 (.ok true)) with acc := 0xFF }.halted = false ∧
    AnswersOk (at' .readT 0 [] (List.replicate 37 (.ok true))) 37 (fun _ => true) ∧
    AnswersOk { at' .drive 0 [] (List.replicate 37 (.ok true)) with acc := 0xFF } 37 (fun _ => true) := by
  unfold AnswersOk; decide +kernel
theorem witness_IdealConverterGivesItsCode :
    ConverterSends (at' .readT 0 [] (answersFor [true, false, true, false, false, true, false, true])) 0xA5 ∧
    AnswersOk (at' .readT 0 [] (answersFor [true, false, true, false, false, true, false, true])) 37 bitsA5 := by
  unfold ConverterSends AnswersOk; decide +kernel
theorem witness_ReadPhaseMicroStep : ∀ u ∈ [(0 : BitVec 6), 14, 34, 35],
    (at' .readT u [] [.ok true]).halted = false ∧ (at' .readT u [] [.ok true]).upc.toNat < 36 ∧
      (at' .readT u [] [.ok true]).answerAt 0 = .ok true := by decide
theorem witness_ReadPhasesDeliverTheirSample : (at' .readA 36 [] [.ok true]).halted = false ∧
    (at' .readA 36 [] [.ok true]).upc = 36 ∧ (at' .readA 36 [] [.ok true]).answerAt 0 = .ok true := by decide
theorem witness_PhasesBeyondTheirTableStop : (at' .readT 37 [] []).halted = false ∧ 36 < (at' .readT 37 [] []).upc.toNat ∧
    (at' .shutdown 4 [] []).halted = false ∧ 3 < (at' .shutdown 4 [] []).upc.toNat := by decide
theorem witness_ReadTransactionTakes37Steps : ∀ p ∈ [Phase.readT, .readA],
    (at' p 0 (List.replicate 37 .ctrl) (List.replicate 37 (.ok true))).phase = p ∧
    (at' p 0 (List.replicate 37 .ctrl) (List.replicate 37 (.ok true))).upc = 0 ∧
    (∀ k, k < 37 → (at' p 0 (List.replicate 37 .ctrl) (List.replicate 37 (.ok true))).eventAt k = .ctrl) ∧
    AnswersOk (at' p 0 (List.replicate 37 .ctrl) (List.replicate 37 (.ok true))) 37 (fun _ => true) := by
  unfold AnswersOk; decide +kernel
theorem witness_FaultFreeCycleTakes78Steps :
    (at' .idle 0 (.tick :: List.replicate 77 .ctrl) (List.replicate 75 (.ok true))).phase = .idle ∧
    (at' .idle 0 (.tick :: List.replicate 77 .ctrl) (List.replicate 75 (.ok true))).stopReq = false ∧
    (at' .idle 0 (.tick :: List.replicate 77 .ctrl) (List.replicate 75 (.ok true))).eventAt 0 = .tick ∧
    (∀ k, k < 78 → 0 < k →
      (at' .idle 0 (.tick :: List.replicate 77 .ctrl) (List.replicate 75 (.ok true))).eventAt k = .ctrl) ∧
    AnswersOk (at' .idle 0 (.tick :: List.replicate 77 .ctrl) (List.replicate 75 (.ok true))) 75 (fun _ => true) := by
  unfold AnswersOk; decide +kernel
theorem witness_ConversionsDeliverTheirValue :
    (at' .eval 0 [] []).halted = false ∧
    { at' .eval 0 [] [] with rawT := 0x80 }.cfg.tempRom[0x80]? = some ⟨true, 0x0018D2D7⟩ ∧
    { at' .eval 0 [] [] with rawT := 0xFF }.cfg.tempRom[0xFF]? = some ⟨false, 0⟩ ∧
    { at' .eval 0 [] [] with rawA := 0x80 }.cfg.threshRom[0x80]? = some 0x00003232 ∧
    { at' .eval 0 [] [] with rawA := 127 }.rawA.toNat < (at' .eval 0 [] []).cfg.lightCut ∧
    (at' .eval 0 [] []).cfg.lightCut ≤ { at' .eval 0 [] [] with rawA := 128 }.rawA.toNat := by decide +kernel
theorem witness_DecideIsStrictAndSigned : (at' .eval 0 [] []).halted = false := rfl
theorem witness_CycleStartLoadsTheThermistorChannel : (at' .idle 0 [] []).phase = .idle ∧
    (at' .idle 0 [] []).stopReq = false ∧ { at' .idle 0 [] [] with stopReq := true }.stopReq = true ∧
    (at' .drive 0 [] []).phase ≠ .idle := by decide
theorem witness_StopWinsInIdle : { at' .idle 0 [.ctrl] [] with stopReq := true }.phase = .idle ∧
    { at' .idle 0 [.ctrl] [] with stopReq := true }.stopReq = true ∧
    { at' .idle 0 [.ctrl] [] with stopReq := true }.eventAt 0 = .ctrl ∧
    { at' .idle 0 [.tick] [] with stopReq := true }.eventAt 0 = .tick := by decide
theorem witness_EvalStoresAValidReading : (at' .eval 0 [] []).halted = false ∧
    { at' .eval 0 [] [] with rawT := 1 }.cfg.tempRom[1]? = some ⟨true, 0x00EF1A6A⟩ ∧
    { at' .eval 0 [] [] with rawA := 255 }.cfg.threshRom[255]? = some 0x00320000 := by decide +kernel
theorem witness_EvalKeepsTheReadingOnConversionFault : (at' .eval 0 [] []).halted = false ∧
    (at' .eval 0 [] []).cfg.tempRom[0]? = some ⟨false, 0⟩ ∧ (at' .eval 0 [] []).cfg.tempRom[255]? = some ⟨false, 0⟩ := by
  decide +kernel
theorem witness_DriveWritesTheBuzzerLine : { at' .drive 0 [] [.ok true] with buzz := .on }.halted = false ∧
    { at' .drive 0 [] [.ok true] with buzz := .on }.answerAt 0 = .ok true ∧
    { at' .drive 0 [] [.ok true] with buzz := .on }.buzz = .on ∧ (at' .drive 0 [] [.ok true]).buzz = .off := by decide
theorem witness_PublishRewritesTheSnapshot : (at' .publish 0 [] []).halted = false := rfl
theorem witness_ShutdownParksTheLines : ∀ u ∈ [(0 : BitVec 6), 1, 2, 3],
    (at' .shutdown u [] [.ok true]).halted = false ∧ (at' .shutdown u [] [.ok true]).upc.toNat ≤ 3 ∧
      (at' .shutdown u [] [.ok true]).answerAt 0 = .ok true := by decide
theorem witness_OnlyPublishWritesTheSnapshot : Instr.eval ≠ .publish ∧ (∃ t, exec .eval (at' .eval 0 [] []) = .next t) ∧
    (at' .drive 0 [.ctrl] [.ioFault]).eventAt 0 ≠ .reset ∧ (at' .drive 0 [.ctrl] [.ioFault]).phase ≠ .publish ∧
    ∃ t, step (at' .drive 0 [.ctrl] [.ioFault]) = .next t :=
  ⟨by decide, next_of_goesOn rfl, by decide, by decide, next_of_goesOn (by decide)⟩
/-- An `EVAL` that changes the reading, and a step that keeps `TEMP_VALID`. -/
theorem witness_OnlyASuccessfulEvalWritesTheReading :
    (after (exec .eval { at' .eval 0 [] [] with rawT := 0x80 }) (·.tempValid) = some true ∧
      { at' .eval 0 [] [] with rawT := 0x80 }.tempValid = false) ∧
    { at' .eval 0 [.ctrl] [] with tempValid := true }.eventAt 0 ≠ .reset ∧
    goesOn (step { at' .eval 0 [.ctrl] [] with tempValid := true }) = true := by decide +kernel
theorem witness_TerminalPhasesAreLeftByResetOnly : (at' .stopped 0 [.tick] []).phase = .stopped ∧
    (at' .stopped 0 [.tick] []).eventAt 0 ≠ .reset ∧
    (∀ w, (at' .stopped 0 [.tick] []).eventAt 0 ≠ .cmd w) ∧ (at' .faulted 0 [.cmd 2] []).phase = .faulted ∧
    (at' .faulted 0 [.cmd 2] []).eventAt 0 ≠ .reset ∧ isCommand .shutdown = false := by decide
theorem witness_BuzzerLineChangesAtDriveOrShutdownOnly : (at' .drive 0 [.ctrl] [.ok true]).eventAt 0 ≠ .reset ∧
    after (step (at' .drive 0 [.ctrl] [.ok true])) (fun t => t.lines.buz) = some (.driven false) ∧
    (at' .drive 0 [.ctrl] [.ok true]).lines.buz = .undriven ∧
    after (step (at' .shutdown 0 [.ctrl] [.ok true])) (fun t => t.lines.buz) = some (.driven false) := by decide
theorem witness_TheLoopReportsOnlyIoFaults : (at' .readT 1 [.ctrl] [.ioFault]).eventAt 0 ≠ .reset ∧
    ∃ t, step (at' .readT 1 [.ctrl] [.ioFault]) = .next t := ⟨by decide, next_of_goesOn (by decide)⟩
theorem witness_StepKeepsThePositionLegal : PositionLegal (at' .readT 36 [.ctrl] [.ok true]) ∧
    ChannelLegal (at' .readT 36 [.ctrl] [.ok true]) ∧ ∃ t, step (at' .readT 36 [.ctrl] [.ok true]) = .next t :=
  ⟨by unfold PositionLegal; decide, by unfold ChannelLegal; decide, next_of_goesOn (by decide)⟩
/-- In `DRIVE` with `IoFault` coming, and in `FAULTED` with the record of F9. -/
theorem witness_StepKeepsStatusTrue : StatusLegal (at' .drive 0 [.ctrl] [.ioFault]) ∧
    (∃ t, step (at' .drive 0 [.ctrl] [.ioFault]) = .next t) ∧
    StatusLegal { at' .faulted 0 [.cmd 0] [] with status := 0x48276, reports := [⟨.ioFault, 0x07, 1, 36⟩] } ∧
    ∃ t, step { at' .faulted 0 [.cmd 0] [] with status := 0x48276, reports := [⟨.ioFault, 0x07, 1, 36⟩] } = .next t :=
  ⟨⟨fun _ => by decide, fun h => by simp [at'] at h⟩, next_of_goesOn (by decide),
    ⟨fun h => absurd rfl h, fun _ => ⟨_, rfl, by decide, by decide⟩⟩, next_of_goesOn (by decide)⟩
theorem witness_StepKeepsTheThresholdInRange :
    (at' .eval 0 [.ctrl] []).cfg.wellFormed (refCalibration : Calibration ℝ) = true ∧
    ThreshLegal refCalibration (at' .eval 0 [.ctrl] []) ∧ (∃ t, step (at' .eval 0 [.ctrl] []) = .next t) ∧
    (∃ t, step (at' .faulted 0 [.reset] []) = .next t) ∧ ∃ t, exec .eval (at' .eval 0 [] []) = .next t :=
  ⟨test_config_accepts_refcfg, by
    rw [ThreshLegal, ← refCalibration_toReal, inThreshRange_toReal, inThreshRange_toReal]; decide +kernel, next_of_goesOn rfl, next_of_goesOn (by decide),
    next_of_goesOn rfl⟩
theorem witness_StepKeepsTheSnapshotConsistent :
    SnapLegal { at' .publish 0 [.ctrl] [] with
      buzz := .on, alarmSeen := .armed, tempValid := true, temp := 0x0018D2D7, thresh := 0x00003232 } ∧
    ∃ t, step { at' .publish 0 [.ctrl] [] with
      buzz := .on, alarmSeen := .armed, tempValid := true, temp := 0x0018D2D7, thresh := 0x00003232 } = .next t :=
  ⟨by unfold SnapLegal snapConsistent; decide, next_of_goesOn (by decide)⟩
theorem witness_StepKeepsTheLinesATraceFunction :
    LinesFollowTrace { at' .readT 1 [.ctrl] [.ok true] with
      trace := [⟨0x07, .ok⟩], lines := ⟨.undriven, .undriven, .driven true, .undriven⟩ } ∧
    ∃ t, step { at' .readT 1 [.ctrl] [.ok true] with
      trace := [⟨0x07, .ok⟩], lines := ⟨.undriven, .undriven, .driven true, .undriven⟩ } = .next t :=
  ⟨fun p => by cases p <;> decide, next_of_goesOn (by decide)⟩
theorem witness_StepKeepsTheTransactionWhole :
    TransactionLegal { at' .readT 2 [.ctrl] [.ok true] with trace := [⟨0x07, .ok⟩, ⟨0x06, .ok⟩] } ∧
    ∃ t, step { at' .readT 2 [.ctrl] [.ok true] with trace := [⟨0x07, .ok⟩, ⟨0x06, .ok⟩] } = .next t :=
  ⟨by unfold TransactionLegal; decide, next_of_goesOn (by decide)⟩
theorem witness_InvariantsHoldAtReset : ∃ (cal : Calibration ℝ) (c : Config),
    c.wellFormed cal = true ∧ State.reset = State.resetWith c :=
  ⟨refCalibration, refcfg, test_config_accepts_refcfg, rfl⟩
theorem witness_ThresholdMapStaysInItsRange :
    (refCalibration : Calibration ℝ).threshMin ≤ (refCalibration : Calibration ℝ).threshMax ∧
    qDefined (refCalibration : Calibration ℝ).threshMin = true ∧
    qDefined (refCalibration : Calibration ℝ).threshMax = true := by
  refine ⟨by norm_num [refCalibration], ?_, ?_⟩ <;> rw [← refCalibration_toReal] <;>
    simp only [Calibration.map, qDefined_ratCast] <;> decide +kernel
theorem witness_RoundingIsNearestHalfEven : (1 : ℝ) / 131072 ≤ 1 := by norm_num

/-- The bound `1 − 1/x ≤ log x` shows that the codes from 120 to 254 are valid under the reference calibration. -/
theorem ref_valid (raw : Nat) (h1 : 120 ≤ raw) (h2 : raw < 255) : ¬ TempInvalid refCalibration raw := by
  have l1 : (120 : ℝ) ≤ raw := by exact_mod_cast h1
  have l2 : (raw : ℝ) < 255 := by exact_mod_cast h2
  rintro (h | ⟨r, invT, ⟨v, hv, hr, hi⟩, h⟩)
  · simp [refCalibration] at h; omega
  · have hr' : r = 10000 * (raw / (255 - raw)) := by
      rw [hr, hv]; simp only [refCalibration]; push_cast
      have : (255 : ℝ) - raw ≠ 0 := by linarith
      field_simp
    have hpos : (0 : ℝ) < raw / (255 - raw) := div_pos (by linarith) (by linarith)
    have hi' : invT = 1 / (25 + 5463 / 20) + 1 / 3950 * Real.log (raw / (255 - raw)) := by
      rw [hi, hr']; simp only [refCalibration]
      rw [mul_div_cancel_left₀ _ (by norm_num : (10000 : ℝ) ≠ 0)]; norm_num
    have hlog := Real.one_sub_inv_le_log_of_pos hpos
    have hinv : ((raw : ℝ) / (255 - raw))⁻¹ ≤ 2 := by
      rw [inv_div, div_le_iff₀ (by linarith)]; linarith
    rcases h with h | h
    · rw [hr'] at h; linarith [mul_pos (by norm_num : (0 : ℝ) < 10000) hpos]
    · rw [hi'] at h; norm_num at h; linarith

theorem witness_ThermistorLawDecreases : (refCalibration : Calibration ℝ).wellFormed = true ∧
    (refCalibration : Calibration ℝ).fs = 255 ∧ 0 < (refCalibration : Calibration ℝ).b ∧ (127 : Nat) < 128 ∧ (128 : Nat) < 256 ∧ ¬ TempInvalid refCalibration 127 ∧
    ¬ TempInvalid refCalibration 128 ∧ (∃ x, IsCelsius refCalibration 127 x) ∧ ∃ y, IsCelsius refCalibration 128 y :=
  ⟨by rw [← refCalibration_toReal, Calibration.wellFormed_toReal]; decide +kernel, rfl, by norm_num [refCalibration],
    by decide, by decide, ref_valid 127 (by decide) (by decide),
    ref_valid 128 (by decide) (by decide), ⟨_, _, _, _, ⟨_, rfl, rfl, rfl⟩, rfl, rfl⟩,
    ⟨_, _, _, _, ⟨_, rfl, rfl, rfl⟩, rfl, rfl⟩⟩

end Sys2Proof.Tests
end

