-- ==== Sys2Proof/Proofs/Scope.lean ====
section
/-! The reference configuration of 00 R10 is accepted by 42 R146 over the reals, and a calibration under which only a
temperature overflows `Q` is not. -/

namespace Sys2Proof.Proofs.Scope

open Sys2Proof Sys2Proof.Machine

/-! ## The divider and the thermistor law (42 R141) -/

/-- With `FS = 255` the divider's resistance is `R_FIXED · raw / (255 − raw)`, whatever the reference voltage. -/
theorem divider_resistance (c : Calibration ℝ) (raw : Nat) (hv : c.vref ≠ 0) (hfs : c.fs = 255) (h : raw < 255) :
    c.rFixed * (c.vref * raw / c.fs) / (c.vref - c.vref * raw / c.fs) = c.rFixed * (raw / (255 - raw)) := by
  have hraw : (raw : ℝ) < 255 := by exact_mod_cast h
  have hne : (255 : ℝ) - raw ≠ 0 := by linarith
  rw [hfs]
  push_cast
  field_simp

/-- The thermistor law with the divider solved: one resistance and one reciprocal temperature for each code. -/
theorem isBeta_iff (c : Calibration ℝ) (raw : Nat) (r invT : ℝ) (hv : c.vref ≠ 0) (hfs : c.fs = 255) (h : raw < 255) :
    IsBeta c raw r invT ↔ r = c.rFixed * (raw / (255 - raw)) ∧
      invT = 1 / (c.t0 + c.kelvin) + 1 / c.b * Real.log (r / c.r0) := by
  simp only [IsBeta, exists_eq_left, divider_resistance c raw hv hfs h]

/-! ## `REFCFG` is accepted -/

/-- `R_0` and `T_0` enter the constraints of 00 R7 only through `R_0 > 0` and `T_0 + KELVIN > 0`, so `REFCFG` meets them
with the reference calibration and with every other choice of these two. -/
theorem refcfg_wellFormed (r0 t0 : ℝ) (hr : 0 < r0) (ht : 0 < t0 + 27315 / 100) :
    refcfg.wellFormed { (refCalibration : Calibration ℝ) with r0 := r0, t0 := t0 } = true := by
  have href : refcfg.wellFormed (refCalibration : Calibration ℝ) = true := by
    rw [← refCalibration_toReal, Config.wellFormed_toReal]
    decide +kernel
  have hrange : inThreshRange { (refCalibration : Calibration ℝ) with r0 := r0, t0 := t0 } =
      inThreshRange refCalibration := rfl
  have hkelvin : 0 < t0 + (refCalibration : Calibration ℝ).kelvin := ht
  simp only [Config.wellFormed, Calibration.wellFormed, Bool.and_eq_true, decide_eq_true_eq, ne_eq] at href ⊢
  simp only [href, hrange, hr, hkelvin, not_false_eq_true, and_self]

/-- The divider's ratio at a code of 1 to 254 is at least `1/254`, which is above `2⁻⁸`. -/
theorem neg_eight_le_log_ratio (raw : Nat) (h0 : 0 < raw) (h : raw < 255) :
    -8 ≤ Real.log ((raw : ℝ) / (255 - raw)) := by
  have hlo : (1 : ℝ) ≤ raw := by exact_mod_cast h0
  have hhi : (raw : ℝ) < 255 := by exact_mod_cast h
  have hle : ((2 : ℝ) ^ 8)⁻¹ ≤ raw / (255 - raw) := by
    rw [le_div_iff₀ (by linarith)]
    linarith
  have hlog2 : Real.log 2 ≤ 1 := by linarith [Real.log_le_sub_one_of_pos (zero_lt_two' ℝ)]
  calc (-8 : ℝ) ≤ -(8 * Real.log 2) := by linarith
    _ = Real.log ((2 : ℝ) ^ 8)⁻¹ := by rw [Real.log_inv, Real.log_pow]; norm_num
    _ ≤ Real.log (raw / (255 - raw)) := Real.log_le_log (by norm_num) hle

/-- The reference temperature at a code of 1 to 254 is above absolute zero and far below what `Q` can hold. -/
theorem refCalibration_celsius_bounds (raw : Nat) (x : ℝ) (h0 : 0 < raw) (h : raw < 255)
    (hx : IsCelsius refCalibration raw x) : -274 ≤ x ∧ x ≤ 1000 := by
  obtain ⟨r, invT, t, hbeta, rfl, rfl⟩ := hx
  obtain ⟨rfl, rfl⟩ := (isBeta_iff refCalibration raw r invT (by norm_num [refCalibration]) rfl h).mp hbeta
  have hlog := neg_eight_le_log_ratio raw h0 h
  simp only [refCalibration]
  rw [mul_div_cancel_left₀ _ (by norm_num : (10000 : ℝ) ≠ 0)]
  set invT := 1 / ((25 : ℝ) + 27315 / 100) + 1 / 3950 * Real.log ((raw : ℝ) / (255 - raw)) with hinvT
  have hge : (1 / 1000 : ℝ) ≤ invT := by
    rw [hinvT]
    norm_num
    linarith
  have hpos : 0 < 1 / invT := by positivity
  have hle : 1 / invT ≤ 1000 := by
    simpa using one_div_le_one_div_of_le (by norm_num) hge
  constructor <;> linarith

/-- At code 0 the divider's resistance is 0. -/
theorem tempInvalid_zero (c : Calibration ℝ) : TempInvalid c 0 :=
  .inr ⟨_, _, ⟨_, rfl, rfl, rfl⟩, .inl (by simp)⟩

theorem refCalibration_tempQDefined : TempQDefined refCalibration := by
  intro raw hraw hvalid x hx
  have h0 : raw ≠ 0 := fun h => hvalid (h ▸ tempInvalid_zero refCalibration)
  have h255 : raw ≠ 255 := fun h => hvalid (.inl (by rw [h]; rfl))
  obtain ⟨hlo, hhi⟩ := refCalibration_celsius_bounds raw x (by omega) (by omega) hx
  rw [qDefined_iff]
  constructor <;> linarith

theorem refcfg_accepted : refcfg.Accepted refCalibration :=
  ⟨refcfg_wellFormed 10000 25 (by norm_num) (by norm_num), refCalibration_tempQDefined⟩

/-! ## A calibration that only the overflow refuses -/

/-- The reference calibration with `R_0` the divider's resistance at code 85, where `raw / (255 − raw)` is one half, and a
`T_0` that `Q` cannot hold. -/
def hotCalibration {K : Type} [Field K] : Calibration K := { refCalibration with r0 := 5000, t0 := 40000 }

/-- At code 85 `R = R_0`, so the logarithm vanishes and the temperature is `T_0`. -/
theorem hotCalibration_isBeta_iff (r invT : ℝ) :
    IsBeta hotCalibration 85 r invT ↔ r = 5000 ∧ invT = 1 / (40000 + 27315 / 100) := by
  rw [isBeta_iff _ _ _ _ (by norm_num [hotCalibration, refCalibration]) rfl (by norm_num)]
  have hr : hotCalibration.rFixed * (((85 : Nat) : ℝ) / (255 - ((85 : Nat) : ℝ))) = 5000 := by
    norm_num [hotCalibration, refCalibration]
  rw [hr]
  refine and_congr_right fun h => ?_
  rw [h]
  simp [hotCalibration, refCalibration]

theorem hotCalibration_valid : ¬ TempInvalid hotCalibration 85 := by
  rintro (h | ⟨r, invT, hbeta, h⟩)
  · exact absurd h (by decide)
  · obtain ⟨rfl, rfl⟩ := (hotCalibration_isBeta_iff r invT).mp hbeta
    norm_num at h

theorem hotCalibration_celsius : IsCelsius hotCalibration 85 40000 :=
  ⟨5000, _, _, (hotCalibration_isBeta_iff _ _).mpr ⟨rfl, rfl⟩, rfl, by norm_num [hotCalibration, refCalibration]⟩

theorem hotCalibration_not_tempQDefined : ¬ TempQDefined hotCalibration := by
  intro h
  have hq := (qDefined_iff 40000).mp (h 85 (by norm_num) hotCalibration_valid 40000 hotCalibration_celsius)
  norm_num at hq

/-! ## The statement -/

/-- Settles O12. `REFCFG` is accepted because its valid temperatures stay between −274 and 1000 degrees; the calibration
that is refused is `hotCalibration`, at code 85. -/
theorem stateResetIsTheReferenceConfiguration : Obligations.StateResetIsTheReferenceConfiguration := by
  unfold Obligations.StateResetIsTheReferenceConfiguration
  refine ⟨rfl, rfl, rfl, rfl, refcfg_accepted.1, refcfg_accepted, ?construct, hotCalibration, ?wellFormed, ?refused⟩
  case construct => intro cal c _; rfl
  case wellFormed => exact refcfg_wellFormed 5000 40000 (by norm_num) (by norm_num)
  case refused => exact fun h => hotCalibration_not_tempQDefined h.2

end Sys2Proof.Proofs.Scope
end

/-! The registers of 10: what one step can do to the machine, said once, and from it the invariants every step keeps
(10 R25, R30 to R37, R41), with the values after reset (10 R44). -/

namespace Sys2Proof.Proofs.MachineState

open Sys2Proof Sys2Proof.Machine

/-! ## What one micro-step or operation of `CTRL` can do -/

/-- What the operation of a phase that is not terminal can do to the machine: one constructor for each way 10 R30 leaves
a position, and one for the fault entry of 60 R225. The event of the step has been taken from the script before. -/
inductive CtrlEffect (s : State) : State → Prop
  /-- 45 R201: a stop is requested in `IDLE`. -/
  | beginShutdown (hp : s.phase = .idle) : CtrlEffect s (s.goto .shutdown)
  /-- 45 R191: a cycle begins. -/
  | beginCycle (hp : s.phase = .idle) : CtrlEffect s { s.goto .readT with ch := s.cfg.tempChannel }
  /-- 60 R225: `PORT` answers `IoFault`. -/
  | fault (op : PortOp) (hrun : s.halted = false) :
      CtrlEffect s ((s.answered op .ioFault).enterFault .ioFault (popWord op))
  /-- A row of 41 R123 before the last. -/
  | readRow (op : PortOp) (b : Level) (hp : s.phase = .readT ∨ s.phase = .readA) (hu : s.upc.toNat < 36)
      (hop : (adcProgram s.ch)[s.upc.toNat]? = some op) :
      CtrlEffect s ((s.answered op (.ok b)).microAcc op b).nextMicro
  /-- The last row of 41 R123 in `READ_T` (45 R193). -/
  | endReadT (op : PortOp) (b : Level) (hp : s.phase = .readT) :
      CtrlEffect s ((s.answered op (.ok b)).microAcc op b).finishReadT
  /-- The last row of 41 R123 in `READ_A` (45 R194). -/
  | endReadA (op : PortOp) (b : Level) (hp : s.phase = .readA) :
      CtrlEffect s ((s.answered op (.ok b)).microAcc op b).finishReadA
  /-- 45 R195, R196. -/
  | eval (hp : s.phase = .eval) : CtrlEffect s (s.evalConvert.evalLight.evalSeeAlarm.decideStep.goto .drive)
  /-- 45 R198. -/
  | drive (b : Level) (hp : s.phase = .drive) :
      CtrlEffect s ((s.answered (.set .buz (buzzerBit s.buzz)) (.ok b)).goto .publish)
  /-- 45 R199. -/
  | publish (hp : s.phase = .publish) : CtrlEffect s { s.goto .idle with snap := s.snapshot }
  /-- One of the first three rows of 45 R202. -/
  | shutdownRow (op : PortOp) (b : Level) (hp : s.phase = .shutdown) (hu : s.upc.toNat < 3) :
      CtrlEffect s (s.answered op (.ok b)).nextMicro
  /-- The last row of 45 R202. -/
  | endShutdown (op : PortOp) (b : Level) (hp : s.phase = .shutdown) :
      CtrlEffect s (s.answered op (.ok b)).enterStopped

theorem halted_eq_false_of_phaseInstr {s : State} {i : Instr} (hi : phaseInstr s.phase = some i) :
    s.halted = false := by
  cases hp : s.phase <;> simp_all [State.halted, phaseInstr]

section running
variable {s : State} (hrun : s.halted = false)
include hrun

theorem exec_readT_running : exec .readT s = s.readPhase State.finishReadT := by
  simp only [exec, execReadT, State.ctrlStep_running hrun]

theorem exec_readA_running : exec .readA s = s.readPhase State.finishReadA := by
  simp only [exec, execReadA, State.ctrlStep_running hrun]

theorem exec_eval_running :
    exec .eval s = .next (s.evalConvert.evalLight.evalSeeAlarm.decideStep.goto .drive) := by
  simp only [exec, execEval, State.ctrlStep_running hrun]

theorem exec_drive_running :
    exec .drive s = .next (s.portOp (.set .buz (buzzerBit s.buzz)) fun _ t => t.goto .publish) := by
  simp only [exec, execDrive, State.ctrlStep_running hrun]

theorem exec_publish_running : exec .publish s = .next { s.goto .idle with snap := s.snapshot } := by
  simp only [exec, execPublish, State.ctrlStep_running hrun]

/-- `SHUTDOWN` has a micro-step exactly at `UPC` 0 to 3 (45 R202). -/
theorem exec_shutdown_running :
    (3 < s.upc.toNat ∧ exec .shutdown s = .fault .noMicroStep) ∨
    ∃ op, s.upc.toNat ≤ 3 ∧ exec .shutdown s = .next (s.portOp op fun _ t =>
      if t.upc.toNat < maxUpc .shutdown then t.nextMicro else t.enterStopped) := by
  simp only [exec, execShutdown, State.ctrlStep_running hrun]
  cases hop : shutdownProgram[s.upc.toNat]? with
  | none =>
    have hlen := List.getElem?_eq_none_iff.mp hop
    rw [shutdownProgram_length] at hlen
    exact .inl ⟨by omega, rfl⟩
  | some op =>
    obtain ⟨hlen, -⟩ := List.getElem?_eq_some_iff.mp hop
    rw [shutdownProgram_length] at hlen
    exact .inr ⟨op, by omega, rfl⟩

end running

theorem cycleStart_effect {s t : State} (hp : s.phase = .idle) (hx : exec .cycleStart s = .next t) :
    CtrlEffect s t := by
  obtain rfl : s.leaveIdle = t := Host.Outcome.next.inj hx
  cases hstop : s.stopReq with
  | true =>
    rw [State.leaveIdle, if_pos hp, if_pos hstop]
    exact .beginShutdown hp
  | false =>
    rw [State.leaveIdle, if_pos hp, if_neg (by simp [hstop])]
    exact .beginCycle hp

/-- A micro-step of a read phase faults, goes to the next row of 41 R123, or finishes the phase. -/
theorem readPhase_effect {s t : State} {finish : State → State} (hp : s.phase = .readT ∨ s.phase = .readA)
    (hrun : s.halted = false)
    (hfinish : ∀ op b, CtrlEffect s (finish ((s.answered op (.ok b)).microAcc op b)))
    (hx : s.readPhase finish = .next t) : CtrlEffect s t := by
  rcases State.readPhase_spec s finish with ⟨-, hstop⟩ | ⟨op, -, hop, hnext⟩
  · rw [hstop] at hx
    cases hx
  · obtain rfl := Host.Outcome.next.inj (hnext.symm.trans hx)
    cases ha : s.answerAt 0 with
    | ioFault =>
      rw [State.microStep_ioFault ha]
      exact .fault op hrun
    | ok b =>
      rw [State.microStep_ok ha]
      by_cases hu : s.upc.toNat < 36
      · rw [if_pos (by simpa [maxUpc] using hu)]
        exact .readRow op b hp hu hop
      · rw [if_neg (by simpa [maxUpc] using hu)]
        exact hfinish op b

theorem drive_effect {s t : State} (hp : s.phase = .drive) (hrun : s.halted = false)
    (hx : exec .drive s = .next t) : CtrlEffect s t := by
  obtain rfl := Host.Outcome.next.inj ((exec_drive_running hrun).symm.trans hx)
  rcases State.portOp_cases s (.set .buz (buzzerBit s.buzz)) (fun _ t => t.goto .publish) with
    ⟨b, -, hok⟩ | ⟨-, hfault⟩
  · rw [hok]
    exact .drive b hp
  · rw [hfault]
    exact .fault _ hrun

theorem shutdown_effect {s t : State} (hp : s.phase = .shutdown) (hrun : s.halted = false)
    (hx : exec .shutdown s = .next t) : CtrlEffect s t := by
  rcases exec_shutdown_running hrun with ⟨-, hstop⟩ | ⟨op, -, hnext⟩
  · rw [hstop] at hx
    cases hx
  · obtain rfl := Host.Outcome.next.inj (hnext.symm.trans hx)
    cases ha : s.answerAt 0 with
    | ioFault =>
      rw [State.portOp_ioFault ha]
      exact .fault op hrun
    | ok b =>
      rw [State.portOp_ok ha]
      by_cases hu : s.upc.toNat < 3
      · rw [if_pos (by simpa [maxUpc] using hu)]
        exact .shutdownRow op b hp hu
      · rw [if_neg (by simpa [maxUpc] using hu)]
        exact .endShutdown op b hp

/-- Whatever the operation of the phase does is one of the effects of `CtrlEffect`. -/
theorem ctrlEffect_of_exec {s t : State} {i : Instr} (hi : phaseInstr s.phase = some i)
    (hx : exec i s = .next t) : CtrlEffect s t := by
  have hrun := halted_eq_false_of_phaseInstr hi
  cases hp : s.phase <;> rw [hp] at hi <;> cases hi
  case idle.refl => exact cycleStart_effect hp hx
  case readT.refl =>
    exact readPhase_effect (.inl hp) hrun (fun op b => .endReadT op b hp) ((exec_readT_running hrun).symm.trans hx)
  case readA.refl =>
    exact readPhase_effect (.inr hp) hrun (fun op b => .endReadA op b hp) ((exec_readA_running hrun).symm.trans hx)
  case eval.refl =>
    obtain rfl := Host.Outcome.next.inj ((exec_eval_running hrun).symm.trans hx)
    exact .eval hp
  case drive.refl => exact drive_effect hp hrun hx
  case publish.refl =>
    obtain rfl := Host.Outcome.next.inj ((exec_publish_running hrun).symm.trans hx)
    exact .publish hp
  case shutdown.refl => exact shutdown_effect hp hrun hx

/-! ## What one step of the machine can do -/

/-- What a step can do, by the agent that takes it (00 R11): reset; `CMD`, `VIEW` or an agent with no enabled step, which
write the latches and the model's reads alone; or `CTRL` with the operation of its phase. -/
inductive StepEffect (s : State) : State → Prop
  | reset (he : s.eventAt 0 = .reset) : StepEffect s s.consumeEvent.resetNow
  | outside (he : s.eventAt 0 ≠ .reset) (a : AlarmState) (r : Bool) (v : ViewReads)
      (hr : r = true ↔ s.stopReq = true ∨ s.eventAt 0 = .cmd 3) :
      StepEffect s { s.consumeEvent with alarm := a, stopReq := r, view := v }
  | ctrl {t : State} (i : Instr) (he : s.eventAt 0 = .ctrl ∨ s.eventAt 0 = .tick)
      (hi : phaseInstr s.phase = some i) (hx : exec i s.consumeEvent = .next t) : StepEffect s t

/-- A command writes one latch, and `STOP_REQ` exactly when its word is 3 (30 R87, 44 R181 to R183, 45 R200). -/
theorem exec_decodeCmd (w : BitVec 2) (s : State) :
    ∃ a r, exec (decodeCmd w) s = .next { s with alarm := a, stopReq := r } ∧
      (r = true ↔ s.stopReq = true ∨ w = 3) := by
  have hw : w = 0 ∨ w = 1 ∨ w = 2 ∨ w = 3 := by revert w; decide
  rcases hw with rfl | rfl | rfl | rfl
  · exact ⟨.armed, s.stopReq, rfl, by simp⟩
  · exact ⟨.disarmed, s.stopReq, rfl, by simp⟩
  · exact ⟨toggleAlarm s.alarm, s.stopReq, rfl, by simp⟩
  · exact ⟨s.alarm, true, rfl, by simp⟩

theorem phaseInstr_of_ctrlInstr {s : State} {i : Instr} (h : s.ctrlInstr = some i) : phaseInstr s.phase = some i := by
  by_cases hp : s.phase = .idle
  · cases hstop : s.stopReq <;> simp_all [State.ctrlInstr, phaseInstr]
  · simpa [State.ctrlInstr, hp] using h

/-- A step that leaves the latches alone, by an agent other than reset and `CMD`. -/
theorem stepEffect_quiet {s : State} (v : ViewReads) (hreset : s.eventAt 0 ≠ .reset) (hcmd : s.eventAt 0 ≠ .cmd 3) :
    StepEffect s { s.consumeEvent with view := v } :=
  .outside hreset s.alarm s.stopReq v ⟨.inl, fun h => h.resolve_right hcmd⟩

/-- Whatever a step does is one of the effects of `StepEffect`. -/
theorem stepEffect_of_step {s t : State} (h : step s = .next t) : StepEffect s t := by
  rw [step_spec] at h
  cases he : s.eventAt 0 with
  | reset =>
    simp only [he, Host.Outcome.next.injEq] at h
    exact h ▸ .reset he
  | viewSnap =>
    simp only [he, Host.Outcome.next.injEq] at h
    exact h ▸ stepEffect_quiet { s.view with snap := some s.snap } (by simp [he]) (by simp [he])
  | viewStatus =>
    simp only [he, Host.Outcome.next.injEq] at h
    exact h ▸ stepEffect_quiet { s.view with status := some s.status } (by simp [he]) (by simp [he])
  | cmd w =>
    obtain ⟨a, r, hx, hr⟩ := exec_decodeCmd w s.consumeEvent
    simp only [he, hx, Host.Outcome.next.injEq] at h
    exact h ▸ .outside (by simp [he]) a r s.view (by simpa [he] using hr)
  | tick =>
    simp only [he] at h
    split at h
    case isTrue hp => exact .ctrl .cycleStart (.inr he) (by rw [hp]; rfl) h
    case isFalse =>
      obtain rfl := Host.Outcome.next.inj h
      exact stepEffect_quiet s.view (by simp [he]) (by simp [he])
  | ctrl =>
    cases hi : s.ctrlInstr with
    | none =>
      simp only [he, hi, Host.Outcome.next.injEq] at h
      exact h ▸ stepEffect_quiet s.view (by simp [he]) (by simp [he])
    | some i =>
      simp only [he, hi] at h
      exact .ctrl i (.inl he) (phaseInstr_of_ctrlInstr hi) h

/-- The induction step of every invariant, packaged once: it does not see the latches, `VIEW`'s reads or the script, it
holds after a run-time reset, and the operations of the phases keep it. -/
theorem step_keeps {P : State → Prop}
    (houtside : ∀ s a r v e, P s → P { s with alarm := a, stopReq := r, view := v, env := e })
    (hreset : ∀ s, P s → P s.resetNow)
    (hctrl : ∀ {s t}, CtrlEffect s t → P s → P t) {s t : State} (hs : P s) (h : step s = .next t) : P t := by
  have hs' : P s.consumeEvent := houtside s s.alarm s.stopReq s.view s.env.dropEvent hs
  cases stepEffect_of_step h with
  | reset => exact hreset _ hs'
  | outside _ a r v => exact houtside s a r v s.env.dropEvent hs
  | ctrl i _ hi hx => exact hctrl (ctrlEffect_of_exec (s := s.consumeEvent) hi hx) hs'

/-! ## Position and channel (10 R30, R31) -/

theorem positionLegal_of_upc_eq_zero {s : State} (h : s.upc = 0) : PositionLegal s := by
  simp [PositionLegal, h]

theorem toNat_nextMicro {u : BitVec 6} (h : u.toNat < 36) : (u + 1).toNat = u.toNat + 1 := by
  bv_omega

theorem positionLegal_resetWith (c : Config) : PositionLegal (State.resetWith c) :=
  positionLegal_of_upc_eq_zero rfl

theorem CtrlEffect.positionLegal {s t : State} (h : CtrlEffect s t) (_ : PositionLegal s) : PositionLegal t := by
  cases h with
  | readRow op b hp hu =>
    have hmax : maxUpc s.phase = 36 := by rcases hp with hp | hp <;> rw [hp] <;> rfl
    rw [PositionLegal, State.nextMicro_upc, State.nextMicro_phase]
    simp only [State.microAcc_upc, State.microAcc_phase, State.answered_upc, State.answered_phase]
    rw [hmax, toNat_nextMicro hu]
    omega
  | shutdownRow op b hp hu =>
    have hmax : maxUpc s.phase = 3 := by rw [hp]; rfl
    rw [PositionLegal, State.nextMicro_upc, State.nextMicro_phase, State.answered_upc, State.answered_phase, hmax,
      toNat_nextMicro (by omega)]
    omega
  | _ => exact positionLegal_of_upc_eq_zero (by simp)

theorem channelLegal_resetWith (c : Config) : ChannelLegal (State.resetWith c) :=
  ⟨nofun, nofun⟩

theorem CtrlEffect.channelLegal {s t : State} (h : CtrlEffect s t) (hs : ChannelLegal s) : ChannelLegal t := by
  cases h with
  | readRow op b => simpa [ChannelLegal] using hs
  | shutdownRow op b hp => simp [ChannelLegal, hp]
  | _ => simp [ChannelLegal]

/-- Settles O49. Every move either resets `UPC` or adds 1 to it before the last row of the phase. -/
theorem stepKeepsThePositionLegal : Obligations.StepKeepsThePositionLegal := by
  unfold Obligations.StepKeepsThePositionLegal
  intro s t h
  exact ⟨fun hs => step_keeps (fun _ _ _ _ _ => id) (fun s _ => positionLegal_resetWith s.cfg)
      CtrlEffect.positionLegal hs h,
    fun hs => step_keeps (fun _ _ _ _ _ => id) (fun s _ => channelLegal_resetWith s.cfg)
      CtrlEffect.channelLegal hs h⟩

/-! ## `STATUS` and the reports (10 R37) -/

theorem statusLegal_resetWith (c : Config) : StatusLegal (State.resetWith c) :=
  ⟨fun _ => ⟨(by decide : (0 : BitVec 19) = packStatus (runCode .idle) 0 0 0 0), rfl⟩, nofun⟩

/-- A move between phases whose `RUN` is 0 leaves `STATUS` and the reports as they are. -/
theorem statusLegal_of_running {s t : State} (hs : StatusLegal s) (hps : runCode s.phase = 0)
    (hpt : runCode t.phase = 0) (hstatus : t.status = s.status) (hreports : t.reports = s.reports) :
    StatusLegal t := by
  have hne : ∀ {p}, runCode p = 0 → p ≠ .faulted := by
    rintro p h rfl
    simp [runCode] at h
  obtain ⟨hword, hnone⟩ := hs.1 (hne hps)
  refine ⟨fun _ => ⟨?_, hreports.trans hnone⟩, fun hp => absurd hp (hne hpt)⟩
  rw [hstatus, hword, hps, hpt]

/-- A fatal fault taken outside `FAULTED` is the first report, and `STATUS` holds its record (60 R225, R232). -/
theorem statusLegal_enterFault {s : State} (hs : StatusLegal s) (hp : s.phase ≠ .faulted) (code : FaultCode)
    (fop : BitVec 5) (hcode : code ≠ .conversionFault) : StatusLegal (s.enterFault code fop) := by
  obtain ⟨-, hnone⟩ := hs.1 hp
  refine ⟨fun h => absurd rfl h, fun _ => ⟨⟨code, fop, phaseCode s.phase, s.upc⟩, ?_, hcode, rfl⟩⟩
  rw [State.enterFault, hnone]
  rfl

theorem statusLegal_enterStopped {s : State} (hs : StatusLegal s) (hp : s.phase ≠ .faulted) :
    StatusLegal s.enterStopped := by
  obtain ⟨hword, hnone⟩ := hs.1 hp
  refine ⟨fun _ => ⟨?_, hnone⟩, nofun⟩
  rw [State.enterStopped, hword, statusWithRun_packStatus]

theorem phase_ne_faulted_of_running {s : State} (h : s.halted = false) : s.phase ≠ .faulted := by
  intro hp
  rw [(State.halted_eq_true s).mpr (.inr hp)] at h
  cases h

theorem CtrlEffect.statusLegal {s t : State} (h : CtrlEffect s t) (hs : StatusLegal s) : StatusLegal t := by
  cases h with
  | fault op hrun =>
    exact statusLegal_enterFault (s := s.answered op .ioFault) hs (phase_ne_faulted_of_running hrun) _ _ nofun
  | endShutdown op b hp => exact statusLegal_enterStopped (s := s.answered op (.ok b)) hs (by simp [hp])
  | readRow op b hp =>
    rcases hp with hp | hp <;>
      exact statusLegal_of_running hs (by simp [hp, runCode]) (by simp [hp, runCode]) (by simp) (by simp)
  | shutdownRow op b hp | beginShutdown hp | beginCycle hp | endReadT op b hp | endReadA op b hp | eval hp
  | drive b hp | publish hp =>
    exact statusLegal_of_running hs (by simp [hp, runCode]) (by simp [hp, runCode]) (by simp) (by simp)

/-- Settles O50. Only the fault entry and the entry into `STOPPED` write `STATUS`. -/
theorem stepKeepsStatusTrue : Obligations.StepKeepsStatusTrue := by
  unfold Obligations.StepKeepsStatusTrue
  intro s t
  exact step_keeps (fun _ _ _ _ _ => id) (fun s _ => statusLegal_resetWith s.cfg) CtrlEffect.statusLegal

/-! ## The lines and the trace (10 R41) -/

theorem popWord_eq_iff (a b : PortOp) : popWord a = popWord b ↔ a = b :=
  ⟨popWord_injective a b, congrArg popWord⟩

/-- The entry a port operation leaves in the trace says what the operation did to every line. -/
theorem lineStep_traceEntry (l : Lines) (p : OutPin) (op : PortOp) (a : PortAnswer) :
    lineStep p (l.get p) (traceEntry op a) = (l.after op a).get p := by
  cases op with
  | read q => simp [lineStep, traceEntry, popWord_eq_iff]
  | set q v =>
    by_cases hq : q = p
    · subst hq
      cases v <;> cases a <;> simp [lineStep, traceEntry, popWord_eq_iff, traceOutcome]
    · have hq' : p ≠ q := fun h => hq h.symm
      cases a <;> simp [lineStep, traceEntry, popWord_eq_iff, hq, hq']

theorem linesFollowTrace_resetWith (c : Config) : LinesFollowTrace (State.resetWith c) := by
  intro p
  cases p <;> rfl

/-- A step of `CTRL` issues at most one port operation, and the lines and the trace move with it alone. -/
theorem CtrlEffect.port {s t : State} (h : CtrlEffect s t) :
    (t.lines = s.lines ∧ t.trace = s.trace) ∨
    ∃ op a, t.lines = s.lines.after op a ∧ t.trace = s.trace ++ [traceEntry op a] := by
  cases h with
  | beginShutdown | beginCycle | eval | publish => exact .inl (by simp)
  | fault op => exact .inr ⟨op, .ioFault, by simp⟩
  | drive b => exact .inr ⟨.set .buz (buzzerBit s.buzz), .ok b, by simp⟩
  | readRow op b | endReadT op b | endReadA op b | shutdownRow op b | endShutdown op b =>
    exact .inr ⟨op, .ok b, by simp⟩

theorem CtrlEffect.linesFollowTrace {s t : State} (h : CtrlEffect s t) (hs : LinesFollowTrace s) :
    LinesFollowTrace t := by
  intro p
  rcases h.port with ⟨hlines, htrace⟩ | ⟨op, a, hlines, htrace⟩
  · rw [hlines, htrace, hs p]
  · rw [hlines, htrace, ← lineStep_traceEntry, hs p]
    simp [lineOfTrace]

/-- Settles O53. A step appends at most one entry to the trace, and `lineStep` reads that entry as the port did. -/
theorem stepKeepsTheLinesATraceFunction : Obligations.StepKeepsTheLinesATraceFunction := by
  unfold Obligations.StepKeepsTheLinesATraceFunction
  intro s t
  exact step_keeps (fun _ _ _ _ _ => id) (fun s _ => linesFollowTrace_resetWith s.cfg)
    CtrlEffect.linesFollowTrace

/-! ## The transaction (10 R32) -/

/-- The composed program of 30 R98 issues the words of the table of 41 R123. -/
theorem map_popWord_adcProgram (c : Channel) : (adcProgram c).map popWord = transactionWords c := by
  cases c <;> rfl

/-- Row 0 of 41 R123 is no read. -/
theorem upc_ne_zero_of_read {s : State} {p : InPin} (h : (adcProgram s.ch)[s.upc.toNat]? = some (.read p)) :
    s.upc ≠ 0 := by
  intro hu
  simp [hu, adcProgram, csStart] at h

theorem sampleOfBits_append (bits : List Level) (b : Level) :
    sampleOfBits (bits ++ [b]) = shiftInBit (sampleOfBits bits) b := by
  simp [sampleOfBits]

theorem transactionTail_of_upc_eq_zero {s : State} (h : s.upc = 0) : transactionTail s = [] := by
  simp [transactionTail, h]

theorem transactionLegal_of_upc_eq_zero {s : State} (h : s.upc = 0) : TransactionLegal s := fun _ => by
  simp [transactionTail_of_upc_eq_zero h, h]

theorem transactionLegal_resetWith (c : Config) : TransactionLegal (State.resetWith c) :=
  transactionLegal_of_upc_eq_zero rfl

/-- One more entry and one more micro-step lengthen the transaction's part of the trace by that entry. -/
theorem transactionTail_append {s t : State} {e : TraceEntry} (htrace : t.trace = s.trace ++ [e])
    (hu : t.upc.toNat = s.upc.toNat + 1) :
    transactionTail t = transactionTail s ++ [e] := by
  rw [transactionTail, transactionTail, htrace, hu, List.length_append, List.length_singleton,
    Nat.add_sub_add_right, List.drop_append_of_le_length (Nat.sub_le _ _)]

/-- `ACC` after a completed micro-step holds the bits delivered up to and with it (41 R123, R126). -/
theorem microAcc_acc_eq_sampleOfBits {s : State} {op : PortOp} (b : Level)
    (hop : (adcProgram s.ch)[s.upc.toNat]? = some op)
    (hacc : s.upc ≠ 0 → s.acc = sampleOfBits ((transactionTail s).filterMap entryBit)) :
    ((s.answered op (.ok b)).microAcc op b).acc =
      sampleOfBits ((transactionTail s ++ [traceEntry op (.ok b)]).filterMap entryBit) := by
  cases op with
  | read p =>
    simp [traceEntry, traceOutcome, entryBit, sampleOfBits_append, ← hacc (upc_ne_zero_of_read hop)]
  | set p l =>
    rw [State.microAcc_set_acc]
    by_cases hu : s.upc = 0
    · rw [State.answered_upc, if_pos hu, transactionTail_of_upc_eq_zero hu]
      rfl
    · rw [State.answered_upc, if_neg hu, State.answered_acc, hacc hu, List.filterMap_append]
      simp [traceEntry, traceOutcome, entryBit, List.filterMap_cons]

/-- The row that a completed micro-step adds keeps the transaction whole. -/
theorem transactionLegal_readRow {s : State} {op : PortOp} (b : Level) (hs : TransactionLegal s)
    (hp : s.phase = .readT ∨ s.phase = .readA) (hu : s.upc.toNat < 36)
    (hop : (adcProgram s.ch)[s.upc.toNat]? = some op) :
    TransactionLegal ((s.answered op (.ok b)).microAcc op b).nextMicro := by
  obtain ⟨hlen, hwords, hok, hacc⟩ := hs hp
  have hu' : ((s.answered op (.ok b)).microAcc op b).nextMicro.upc.toNat = s.upc.toNat + 1 := by
    rw [State.nextMicro_upc, State.microAcc_upc, State.answered_upc, toNat_nextMicro hu]
  have htail : transactionTail ((s.answered op (.ok b)).microAcc op b).nextMicro =
      transactionTail s ++ [traceEntry op (.ok b)] :=
    transactionTail_append (by simp) hu'
  have hword : (transactionWords s.ch)[s.upc.toNat]? = some (popWord op) := by
    rw [← map_popWord_adcProgram, List.getElem?_map, hop]
    rfl
  intro _
  rw [htail]
  refine ⟨?length, ?words, ?answers, fun _ => ?acc⟩
  case length => rw [hu']; simpa using hlen
  case words => rw [hu']; simp [List.take_add_one, hword, hwords, traceEntry]
  case answers =>
    intro e he
    rcases List.mem_append.mp he with he | he
    · exact hok e he
    · rw [List.mem_singleton.mp he]
      cases op <;> simp [traceEntry, traceOutcome]
  case acc =>
    rw [State.nextMicro_acc]
    exact microAcc_acc_eq_sampleOfBits b hop hacc

theorem CtrlEffect.transactionLegal {s t : State} (h : CtrlEffect s t) (hs : TransactionLegal s) :
    TransactionLegal t := by
  cases h with
  | readRow op b hp hu hop => exact transactionLegal_readRow b hs hp hu hop
  | shutdownRow op b hp => exact fun hread => by simp [hp] at hread
  | _ => exact transactionLegal_of_upc_eq_zero (by simp)

/-- Settles O54. Within a read phase only a row of the table moves `UPC`, and it appends its own entry. -/
theorem stepKeepsTheTransactionWhole : Obligations.StepKeepsTheTransactionWhole := by
  unfold Obligations.StepKeepsTheTransactionWhole
  intro s t
  exact step_keeps (fun _ _ _ _ _ => id) (fun s _ => transactionLegal_resetWith s.cfg)
    CtrlEffect.transactionLegal

/-! ## `CONFIG`, the reading and the snapshot (10 R24, R25, R36, R38) -/

/-- `CONFIG`, the stored reading and the snapshot are unchanged. -/
structure KeepsStored (s t : State) : Prop where
  cfg : t.cfg = s.cfg
  tempValid : t.tempValid = s.tempValid
  temp : t.temp = s.temp
  thresh : t.thresh = s.thresh
  snap : t.snap = s.snap

theorem keepsStored_refl (s : State) : KeepsStored s s := ⟨rfl, rfl, rfl, rfl, rfl⟩

theorem KeepsStored.trans {s t u : State} (h : KeepsStored s t) (h' : KeepsStored t u) : KeepsStored s u :=
  ⟨h'.cfg.trans h.cfg, h'.tempValid.trans h.tempValid, h'.temp.trans h.temp, h'.thresh.trans h.thresh,
    h'.snap.trans h.snap⟩

theorem ctrlStep_keepsStored {s t : State} {f : State → Host.Outcome State Fault Refusal}
    (hf : f s = .next t → KeepsStored s t) (h : s.ctrlStep f = .next t) : KeepsStored s t := by
  rcases State.ctrlStep_next h with ⟨-, rfl⟩ | ⟨-, hbody⟩
  · exact keepsStored_refl t
  · exact hf hbody

theorem portOp_keepsStored {s : State} {op : PortOp} {k : Level → State → State}
    (hk : ∀ b t, KeepsStored t (k b t)) : KeepsStored s (s.portOp op k) := by
  rcases State.portOp_cases s op k with ⟨b, -, hok⟩ | ⟨-, hfault⟩
  · rw [hok]
    exact KeepsStored.trans (t := s.answered op (.ok b)) ⟨rfl, rfl, rfl, rfl, rfl⟩ (hk b _)
  · rw [hfault]
    exact ⟨rfl, rfl, rfl, rfl, rfl⟩

theorem microStep_keepsStored {s : State} {op : PortOp} {k : State → State} (hk : ∀ t, KeepsStored t (k t)) :
    KeepsStored s (s.microStep op k) :=
  portOp_keepsStored fun b t => .trans (t := t.microAcc op b) (by constructor <;> simp) (hk _)

theorem runTransaction_keepsStored (s : State) (ops : List PortOp) : KeepsStored s (s.runTransaction ops) := by
  obtain ⟨hcfg, -, -, -, hvalid, htemp, hthresh, -, -, -, -, -, hsnap, -⟩ := State.runTransaction_frame ops s
  exact ⟨hcfg, hvalid, htemp, hthresh, hsnap⟩

theorem readPhase_keepsStored {s t : State} {finish : State → State} (hfinish : ∀ t, KeepsStored t (finish t))
    (h : s.readPhase finish = .next t) : KeepsStored s t := by
  rcases State.readPhase_spec s finish with ⟨-, hstop⟩ | ⟨op, -, -, hnext⟩
  · rw [hstop] at h
    cases h
  · obtain rfl := Host.Outcome.next.inj (hnext.symm.trans h)
    refine microStep_keepsStored fun t => ?_
    split
    · exact ⟨rfl, rfl, rfl, rfl, rfl⟩
    · exact hfinish t

theorem execAdcRead_keepsStored {s t : State} {ch : Nat} (hx : execAdcRead ch s = .next t) : KeepsStored s t := by
  refine ctrlStep_keepsStored (fun h => ?_) hx
  cases hch : channelOperand ch with
  | none =>
    simp only [hch] at h
    obtain rfl := Host.Outcome.next.inj h
    exact ⟨rfl, rfl, rfl, rfl, rfl⟩
  | some c =>
    simp only [hch] at h
    obtain rfl := Host.Outcome.next.inj h
    exact .trans (t := { s with ch := c, upc := 0 }) ⟨rfl, rfl, rfl, rfl, rfl⟩ (runTransaction_keepsStored _ _)

theorem execShutdown_keepsStored {s t : State} (hx : execShutdown s = .next t) : KeepsStored s t := by
  refine ctrlStep_keepsStored (fun h => ?_) hx
  cases hop : shutdownProgram[s.upc.toNat]? with
  | none =>
    simp only [hop] at h
    cases h
  | some op =>
    simp only [hop] at h
    obtain rfl := Host.Outcome.next.inj h
    refine portOp_keepsStored fun b t => ?_
    split <;> exact ⟨rfl, rfl, rfl, rfl, rfl⟩

/-- No operation but `EVAL` and `PUBLISH` writes the reading or the snapshot, and none of these writes `CONFIG`. -/
theorem exec_keepsStored {i : Instr} {s t : State} (heval : i ≠ .eval) (hpublish : i ≠ .publish)
    (hx : exec i s = .next t) : KeepsStored s t := by
  cases i with
  | eval => exact absurd rfl heval
  | publish => exact absurd rfl hpublish
  | arm | disarm | toggle | stop =>
    obtain rfl := Host.Outcome.next.inj hx
    exact ⟨rfl, rfl, rfl, rfl, rfl⟩
  | cycleStart =>
    obtain rfl := Host.Outcome.next.inj hx
    constructor <;> simp
  | convTemp | convThresh | convLight | decide =>
    simp only [exec, execConvTemp, execConvThresh, execConvLight, execDecide] at hx
    refine ctrlStep_keepsStored (fun h => ?_) hx
    obtain rfl := Host.Outcome.next.inj h
    exact ⟨rfl, rfl, rfl, rfl, rfl⟩
  | setLine | readLine | drive =>
    simp only [exec, execSetLine, execReadLine, execDrive] at hx
    refine ctrlStep_keepsStored (fun h => ?_) hx
    obtain rfl := Host.Outcome.next.inj h
    exact portOp_keepsStored fun b t => by constructor <;> simp
  | readT | readA =>
    simp only [exec, execReadT, execReadA] at hx
    refine ctrlStep_keepsStored (readPhase_keepsStored ?_) hx
    exact fun t => ⟨rfl, rfl, rfl, rfl, rfl⟩
  | adcRead ch => exact execAdcRead_keepsStored hx
  | shutdown => exact execShutdown_keepsStored hx

theorem execEval_next {s t : State} (hx : execEval s = .next t) :
    t = s ∨ t = s.evalConvert.evalLight.evalSeeAlarm.decideStep.goto .drive := by
  rcases State.ctrlStep_next hx with ⟨-, rfl⟩ | ⟨-, hbody⟩
  · exact .inl rfl
  · exact .inr (Host.Outcome.next.inj hbody).symm

theorem execPublish_next {s t : State} (hx : execPublish s = .next t) :
    t = s ∨ t = { s.goto .idle with snap := s.snapshot } := by
  rcases State.ctrlStep_next hx with ⟨-, rfl⟩ | ⟨-, hbody⟩
  · exact .inl rfl
  · exact .inr (Host.Outcome.next.inj hbody).symm

/-- `EVAL` keeps `CONFIG` and the snapshot, and the reading too unless it stores a valid temperature with the threshold
of the same cycle (45 R195, R196). -/
theorem execEval_stored {s t : State} (hx : execEval s = .next t) :
    KeepsStored s t ∨
    (conversionFaulted (convTemp s.cfg s.rawT) = false ∧ t.cfg = s.cfg ∧ t.snap = s.snap ∧
      t.tempValid = true ∧ t.thresh = threshRomAt s.cfg s.rawA) := by
  rcases execEval_next hx with rfl | rfl
  · exact .inl (keepsStored_refl t)
  · cases hconv : convTemp s.cfg s.rawT with
    | ok q => exact .inr (by simp [conversionFaulted, State.evalConvert, hconv, convThresh])
    | conversionFault => exact .inl (by constructor <;> simp [State.evalConvert, hconv])

/-- `PUBLISH` keeps `CONFIG` and the reading, and the snapshot's threshold is the old one or the register's (45 R199). -/
theorem execPublish_stored {s t : State} (hx : execPublish s = .next t) :
    t.cfg = s.cfg ∧ t.tempValid = s.tempValid ∧ t.temp = s.temp ∧ t.thresh = s.thresh ∧
      (t.snap = s.snap ∨ snapThreshold t.snap = s.thresh) := by
  rcases execPublish_next hx with rfl | rfl
  · exact ⟨rfl, rfl, rfl, rfl, .inl rfl⟩
  · exact ⟨rfl, rfl, rfl, rfl, .inr (by simp [State.snapshot])⟩

theorem exec_cfg {i : Instr} {s t : State} (hx : exec i s = .next t) : t.cfg = s.cfg := by
  by_cases heval : i = .eval
  · subst heval
    rcases execEval_stored hx with hkeep | ⟨-, hcfg, -⟩
    · exact hkeep.cfg
    · exact hcfg
  · by_cases hpublish : i = .publish
    · subst hpublish
      exact (execPublish_stored hx).1
    · exact (exec_keepsStored heval hpublish hx).cfg

theorem exec_snap {i : Instr} {s t : State} (hi : i ≠ .publish) (hx : exec i s = .next t) : t.snap = s.snap := by
  by_cases heval : i = .eval
  · subst heval
    rcases execEval_stored hx with hkeep | ⟨-, -, hsnap, -⟩
    · exact hkeep.snap
    · exact hsnap
  · exact (exec_keepsStored heval hi hx).snap

/-- The reading changes in an `EVAL` whose conversion succeeds, which leaves `TEMP_VALID` set, or not at all. -/
theorem exec_reading {i : Instr} {s t : State} (hx : exec i s = .next t) :
    (t.temp = s.temp ∧ t.tempValid = s.tempValid ∧ t.thresh = s.thresh) ∨
    (i = .eval ∧ conversionFaulted (convTemp s.cfg s.rawT) = false ∧ t.tempValid = true ∧
      t.thresh = threshRomAt s.cfg s.rawA) := by
  by_cases heval : i = .eval
  · subst heval
    rcases execEval_stored hx with hkeep | ⟨hok, -, -, hvalid, hthresh⟩
    · exact .inl ⟨hkeep.temp, hkeep.tempValid, hkeep.thresh⟩
    · exact .inr ⟨rfl, hok, hvalid, hthresh⟩
  · by_cases hpublish : i = .publish
    · subst hpublish
      obtain ⟨-, hvalid, htemp, hthresh, -⟩ := execPublish_stored hx
      exact .inl ⟨htemp, hvalid, hthresh⟩
    · have hkeep := exec_keepsStored heval hpublish hx
      exact .inl ⟨hkeep.temp, hkeep.tempValid, hkeep.thresh⟩

theorem step_cfg {s t : State} (h : step s = .next t) : t.cfg = s.cfg := by
  cases stepEffect_of_step h with
  | reset | outside => rfl
  | ctrl i _ _ hx => exact exec_cfg (s := s.consumeEvent) hx

/-! ## The threshold (10 R25) -/

theorem config_wellFormed_iff (c : Config) (cal : Calibration ℝ) :
    c.wellFormed cal = true ↔ cal.wellFormed = true ∧ c.tempRom.length = 256 ∧ c.threshRom.length = 256 ∧
      (∀ q ∈ c.threshRom, inThreshRange cal q = true) ∧ inThreshRange cal c.threshReset = true ∧
      c.lightCut ≤ 256 := by
  simp [Config.wellFormed, and_assoc]

theorem inThreshRange_threshRomAt {c : Config} {cal : Calibration ℝ} (hc : c.wellFormed cal = true)
    (raw : RawSample) : inThreshRange cal (threshRomAt c raw) = true := by
  obtain ⟨-, -, hlen, hrange, -, -⟩ := (config_wellFormed_iff c cal).mp hc
  have hraw : raw.toNat < c.threshRom.length := by rw [hlen]; exact raw.isLt
  rw [threshRomAt, List.getD_eq_getElem _ _ hraw]
  exact hrange _ (List.getElem_mem hraw)

theorem threshLegal_resetWith {c : Config} {cal : Calibration ℝ} (hc : c.wellFormed cal = true) :
    ThreshLegal cal (State.resetWith c) := by
  obtain ⟨-, -, -, -, hreset, -⟩ := (config_wellFormed_iff c cal).mp hc
  exact ⟨hreset, by simpa [State.resetWith] using hreset⟩

theorem exec_threshLegal {i : Instr} {s t : State} {cal : Calibration ℝ} (hc : s.cfg.wellFormed cal = true)
    (hs : ThreshLegal cal s) (hx : exec i s = .next t) : ThreshLegal cal t := by
  obtain ⟨hthresh, hsnap⟩ := hs
  constructor
  · rcases exec_reading hx with ⟨-, -, hkeep⟩ | ⟨-, -, -, hload⟩
    · rwa [hkeep]
    · rw [hload]
      exact inThreshRange_threshRomAt hc s.rawA
  · by_cases hpublish : i = .publish
    · subst hpublish
      obtain ⟨-, -, -, -, hkeep | hcopy⟩ := execPublish_stored hx
      · rwa [hkeep]
      · rwa [hcopy]
    · rwa [exec_snap hpublish hx]

theorem step_threshLegal {s t : State} {cal : Calibration ℝ} (hc : s.cfg.wellFormed cal = true)
    (hs : ThreshLegal cal s) (h : step s = .next t) : ThreshLegal cal t := by
  cases stepEffect_of_step h with
  | reset => exact threshLegal_resetWith hc
  | outside => exact hs
  | ctrl i _ _ hx => exact exec_threshLegal (s := s.consumeEvent) hc hs hx

/-- Settles O51. `EVAL` loads the threshold from a table whose entries are in range, and `PUBLISH` copies it. -/
theorem stepKeepsTheThresholdInRange : Obligations.StepKeepsTheThresholdInRange := by
  unfold Obligations.StepKeepsTheThresholdInRange
  refine ⟨fun i s t => exec_cfg, fun s t => step_cfg, fun cal s t hc hs h => ⟨?_, step_threshLegal hc hs h⟩⟩
  rwa [step_cfg h]

/-! ## Legal positions have a step, and the positions beyond them have none (10 R31) -/

theorem readPhase_beyond {s : State} (finish : State → State) (hu : 36 < s.upc.toNat) :
    s.readPhase finish = .fault .noMicroStep := by
  rcases State.readPhase_spec s finish with ⟨-, hstop⟩ | ⟨op, hle, -⟩
  · exact hstop
  · omega

theorem readPhase_next {s : State} (hu : s.upc.toNat ≤ 36) (finish : State → State) :
    ∃ t, s.readPhase finish = .next t := by
  rcases State.readPhase_spec s finish with ⟨hlt, -⟩ | ⟨op, -, -, hnext⟩
  · omega
  · exact ⟨_, hnext⟩

/-- Settles O32. The tables of 41 R123 and 45 R202 have 37 and 4 rows. -/
theorem phasesBeyondTheirTableStop : Obligations.PhasesBeyondTheirTableStop := by
  unfold Obligations.PhasesBeyondTheirTableStop
  refine fun s hrun => ⟨fun hu => ⟨?readT, ?readA⟩, fun hu => ?shutdown⟩
  case readT => exact (exec_readT_running hrun).trans (readPhase_beyond _ hu)
  case readA => exact (exec_readA_running hrun).trans (readPhase_beyond _ hu)
  case shutdown =>
    rcases exec_shutdown_running hrun with ⟨-, hstop⟩ | ⟨op, hle, -⟩
    · exact hstop
    · omega

/-- The operation of a phase at a position of its table answers a next state: 37 rows in the read phases, 4 in
`SHUTDOWN`, and no look at `UPC` in the others. -/
theorem exec_next_of_positionLegal {s : State} {i : Instr} (hs : PositionLegal s) (hi : phaseInstr s.phase = some i) :
    ∃ t, exec i s = .next t := by
  have hrun := halted_eq_false_of_phaseInstr hi
  cases hp : s.phase <;> rw [hp] at hi <;> cases hi
  case idle.refl => exact ⟨_, rfl⟩
  case readT.refl =>
    rw [exec_readT_running hrun]
    exact readPhase_next (by simpa [PositionLegal, hp, maxUpc] using hs) _
  case readA.refl =>
    rw [exec_readA_running hrun]
    exact readPhase_next (by simpa [PositionLegal, hp, maxUpc] using hs) _
  case eval.refl => exact ⟨_, exec_eval_running hrun⟩
  case drive.refl => exact ⟨_, exec_drive_running hrun⟩
  case publish.refl => exact ⟨_, exec_publish_running hrun⟩
  case shutdown.refl =>
    have hu : s.upc.toNat ≤ 3 := by simpa [PositionLegal, hp, maxUpc] using hs
    rcases exec_shutdown_running hrun with ⟨hlt, -⟩ | ⟨op, -, hnext⟩
    · omega
    · exact ⟨_, hnext⟩

/-- Settles O7. Only the operation of a phase can stop, and at a legal position it does not. -/
theorem legalPositionsNeverFault : Obligations.LegalPositionsNeverFault := by
  unfold Obligations.LegalPositionsNeverFault
  intro s hs
  rw [step_spec]
  cases he : s.eventAt 0 with
  | reset | viewSnap | viewStatus => exact ⟨_, rfl⟩
  | cmd w =>
    obtain ⟨a, r, hx, -⟩ := exec_decodeCmd w s.consumeEvent
    exact ⟨_, hx⟩
  | tick =>
    by_cases hp : s.phase = .idle
    · exact ⟨_, if_pos hp⟩
    · exact ⟨_, if_neg hp⟩
  | ctrl =>
    cases hi : s.ctrlInstr with
    | none => exact ⟨_, rfl⟩
    | some i => exact exec_next_of_positionLegal (s := s.consumeEvent) hs (phaseInstr_of_ctrlInstr hi)

/-! ## `STOP_REQ` (10 R35) -/

theorem CtrlEffect.stopReq {s t : State} (h : CtrlEffect s t) : t.stopReq = s.stopReq := by
  cases h <;> simp

/-- Settles O19. Only the agents outside `CTRL` write the latch, and of those only the command `STOP`. -/
theorem stopReqIsSticky : Obligations.StopReqIsSticky := by
  unfold Obligations.StopReqIsSticky
  intro s t hreset h
  cases stepEffect_of_step h with
  | reset he => exact absurd he hreset
  | outside _ a r v hr => exact hr
  | ctrl i he hi hx =>
    have hcmd : s.eventAt 0 ≠ .cmd 3 := by rcases he with he | he <;> rw [he] <;> nofun
    have hkeep : t.stopReq = s.stopReq := (ctrlEffect_of_exec (s := s.consumeEvent) hi hx).stopReq
    rw [hkeep]
    exact ⟨.inl, fun h => h.resolve_right hcmd⟩

/-! ## The snapshot and the reading -/

theorem phase_eq_publish {p : Phase} (h : phaseInstr p = some .publish) : p = .publish := by
  cases p <;> simp_all [phaseInstr]

/-- Settles O44. In a step `CTRL` runs `PUBLISH` in its own phase alone. -/
theorem onlyPublishWritesTheSnapshot : Obligations.OnlyPublishWritesTheSnapshot := by
  unfold Obligations.OnlyPublishWritesTheSnapshot
  refine ⟨fun i s t => exec_snap, fun s t hreset hphase h => ?_⟩
  cases stepEffect_of_step h with
  | reset he => exact absurd he hreset
  | outside => rfl
  | ctrl i _ hi hx =>
    exact exec_snap (s := s.consumeEvent) (fun hpublish => hphase (phase_eq_publish (hpublish ▸ hi))) hx

/-- Settles O45, from what one operation can do to the reading. -/
theorem onlyASuccessfulEvalWritesTheReading : Obligations.OnlyASuccessfulEvalWritesTheReading := by
  unfold Obligations.OnlyASuccessfulEvalWritesTheReading
  refine ⟨fun i s t hx hchange => ?_, fun s t hreset h hvalid => ?_⟩
  · rcases exec_reading hx with ⟨htemp, hvalid, hthresh⟩ | ⟨hi, hok, -⟩
    · exact absurd hchange (by simp [htemp, hvalid, hthresh])
    · exact ⟨hi, hok⟩
  · cases stepEffect_of_step h with
    | reset he => exact absurd he hreset
    | outside => exact hvalid
    | ctrl i _ _ hx =>
      rcases exec_reading (s := s.consumeEvent) hx with ⟨-, hkeep, -⟩ | ⟨-, -, hset, -⟩
      · exact hkeep.trans hvalid
      · exact hset

/-! ## After reset (10 R36, R44) -/

theorem line_resetWith (c : Config) (p : Pin) : (State.resetWith c).line p = .undriven := by
  cases p <;> rfl

/-- Settles O10. The fields of `SNAP` read back as they were packed. -/
theorem resetLeavesTheTableOfValues : Obligations.ResetLeavesTheTableOfValues := by
  unfold Obligations.ResetLeavesTheTableOfValues
  rintro c t rfl
  exact ⟨rfl, rfl, rfl, rfl, rfl, rfl, rfl, rfl, rfl, rfl, rfl, rfl, rfl, rfl, rfl, rfl, snapThreshold_packSnap ..,
    snapTemperature_packSnap .., snapTempValid_packSnap .., snapAlarmState_packSnap .., snapBuzzerOn_packSnap ..,
    snapLight_packSnap .., line_resetWith c, rfl, rfl⟩

theorem snapConsistent_of_buzzer_off (light alarmState : Bool) (threshold : Q1516) :
    snapConsistent (packSnap light false alarmState false 0 threshold) := by
  simp [snapConsistent]

theorem snapLegal_resetWith (c : Config) : SnapLegal (State.resetWith c) :=
  ⟨snapConsistent_of_buzzer_off _ _ _, nofun⟩

/-- Settles O55, from the same facts about `State.resetWith` that the step theorems use for a run-time reset. -/
theorem invariantsHoldAtReset : Obligations.InvariantsHoldAtReset := by
  unfold Obligations.InvariantsHoldAtReset
  refine ⟨Scope.refcfg_accepted.1, ?_⟩
  rintro cal c hc s rfl
  exact ⟨positionLegal_resetWith c, channelLegal_resetWith c, statusLegal_resetWith c, threshLegal_resetWith hc,
    snapLegal_resetWith c, linesFollowTrace_resetWith c, transactionLegal_resetWith c⟩

end Sys2Proof.Proofs.MachineState

/-! The memory of 20: what the agent `VIEW` reads (20 R66), and what the converter answers to a whole transaction
(20 R68). -/

namespace Sys2Proof.Proofs.Memory

open Sys2Proof Sys2Proof.Machine

/-! ## A transaction whose port operations are all answered `Ok` (41 R120, R126) -/

/-- A transaction from micro-step 0, which clears `ACC`: the sample is what the reads delivered, first bit highest. -/
theorem runTransaction_ok_of_upc_eq_zero (p : OutPin) (l : Level) (op : PortOp) (ops : List PortOp) {s : State}
    {bits : Nat → Level} (hu : s.upc = 0) (hlen : ops.length + 1 < 64) (h : AnswersOk s (ops.length + 2) bits) :
    s.runTransaction (.set p l :: op :: ops) =
      { s with
        acc := sampleOfBits (readBits (op :: ops) fun k => bits (k + 1))
        result := .sample (sampleOfBits (readBits (op :: ops) fun k => bits (k + 1)))
        upc := BitVec.ofNat 6 (ops.length + 1)
        trace := s.trace ++ okTrace (.set p l :: op :: ops) bits
        lines := okLines s.lines (.set p l :: op :: ops)
        env := s.env.dropAnswers (ops.length + 2) } := by
  have hupc : 1#6 + BitVec.ofNat 6 ops.length = BitVec.ofNat 6 (ops.length + 1) := by
    rw [BitVec.ofNat_add]
    ac_rfl
  have hfirst : ((s.answered (.set p l) (.ok (bits 0))).microAcc (.set p l) (bits 0)).nextMicro =
      { s.answered (.set p l) (.ok (bits 0)) with acc := 0, upc := 1 } := by
    simp [State.microAcc, State.nextMicro, hu]
  rw [State.runTransaction_cons, State.microStep_ok (h 0 (by omega)), hfirst,
    State.runTransaction_ok ops op _ (fun k => bits (k + 1)) (by simp) (by simpa [Nat.add_comm] using hlen)
      (h.tail rfl)]
  simp [hupc, sampleOfBits, okTrace, okLines, Env.dropAnswers, State.answered]

/-- The eight reads of 41 R123 are the port operations 14, 17, ..., 35. -/
theorem readBits_adcProgram (c : Channel) (bits : Nat → Level) :
    readBits (adcProgram c) bits = (List.range 8).map fun k => bits (14 + 3 * k) := by
  cases c <;> rfl

/-- A call of `ADC_READ` with a channel the block has runs the program of that channel from micro-step 0. -/
theorem exec_adcRead_running (c : Channel) {s : State} (hrun : s.halted = false) :
    exec (.adcRead (channelBit c).toNat) s =
      .next (State.runTransaction { s with ch := c, upc := 0 } (adcProgram c)) := by
  simp only [exec, execAdcRead, State.ctrlStep_running hrun]
  cases c <;> rfl

/-- All that `ADC_READ` does when `PORT` answers its 37 port operations `Ok`. -/
theorem exec_adcRead_ok (c : Channel) {s : State} {bits : Nat → Level} (hrun : s.halted = false)
    (h : AnswersOk s 37 bits) :
    exec (.adcRead (channelBit c).toNat) s = .next
      { s with
        ch := c
        acc := sampleOfBits (readBits (adcProgram c) bits)
        result := .sample (sampleOfBits (readBits (adcProgram c) bits))
        upc := 36
        trace := s.trace ++ okTrace (adcProgram c) bits
        lines := okLines s.lines (adcProgram c)
        env := s.env.dropAnswers 37 } := by
  rw [exec_adcRead_running c hrun]
  cases c <;>
    exact congrArg _ (runTransaction_ok_of_upc_eq_zero .cs true (.set .cs false) _ rfl (by decide) h)

/-! ## The ideal converter (20 R68) -/

/-- Shifting in the next lower bit of a code undoes one step of shifting the code right. -/
theorem shiftInBit_ushiftRight (code : RawSample) (k : Nat) :
    shiftInBit (code >>> (k + 1)) (code.getLsbD k) = code >>> k := by
  apply BitVec.eq_of_getLsbD_eq
  intro i hi
  cases i with
  | zero => simp [shiftInBit]
  | succ i =>
    have hindex : k + 1 + i = k + (i + 1) := by omega
    simp [shiftInBit, hi, hindex]

/-- The first `n` bits of a code, highest first, are the code without its `8 - n` low bits. -/
theorem sampleOfBits_highBits (code : RawSample) (n : Nat) (hn : n ≤ 8) :
    sampleOfBits ((List.range n).map fun k => code.getLsbD (7 - k)) = code >>> (8 - n) := by
  induction n with
  | zero => exact (BitVec.ushiftRight_eq_zero (Nat.le_refl 8)).symm
  | succ n ih =>
    have hn' : 8 - n = 7 - n + 1 := by omega
    rw [List.range_succ, List.map_append, List.map_singleton, MachineState.sampleOfBits_append, ih (by omega), hn',
      shiftInBit_ushiftRight, Nat.add_sub_add_right 7 1 n]

/-- Under the ideal-converter premise the eight reads of a transaction deliver the code. -/
theorem sampleOfBits_readBits_of_converterSends (c : Channel) {s : State} {code : RawSample} {bits : Nat → Level}
    (h : AnswersOk s 37 bits) (hcode : ConverterSends s code) :
    sampleOfBits (readBits (adcProgram c) bits) = code := by
  have hbit : ∀ k ∈ List.range 8, bits (14 + 3 * k) = code.getLsbD (7 - k) := by
    intro k hk
    have hk' : k < 8 := List.mem_range.mp hk
    exact PortAnswer.ok.inj ((h (14 + 3 * k) (by omega)).symm.trans (hcode k hk'))
  rw [readBits_adcProgram, List.map_congr_left hbit, sampleOfBits_highBits code 8 (Nat.le_refl 8)]
  exact BitVec.ushiftRight_zero code

/-- Settles O29. The eight reads rebuild the code bit by bit, from the highest bit down. -/
theorem idealConverterGivesItsCode : Obligations.IdealConverterGivesItsCode := by
  unfold Obligations.IdealConverterGivesItsCode
  intro c s code bits hrun hok hcode
  have hsample := sampleOfBits_readBits_of_converterSends c hok hcode
  exact ⟨_, exec_adcRead_ok c hrun hok, hsample, congrArg OpResult.sample hsample⟩

/-! ## The reads of `VIEW` (20 R66) -/

theorem step_viewSnap {s : State} (he : s.eventAt 0 = .viewSnap) :
    step s = .next { s.consumeEvent with view := { s.view with snap := some s.snap } } := by
  rw [step_spec, he]
  rfl

theorem step_viewStatus {s : State} (he : s.eventAt 0 = .viewStatus) :
    step s = .next { s.consumeEvent with view := { s.view with status := some s.status } } := by
  rw [step_spec, he]
  rfl

/-- A step that uses up its event and records what `VIEW` read writes nothing of the machine. -/
theorem recordView_frame (s : State) (v : ViewReads) {t : State} (ht : t = { s.consumeEvent with view := v }) :
    SamePosition s t ∧ SameSamples s t ∧ SameReading s t ∧ SameLatches s t ∧ SameStatus s t ∧ SamePort s t ∧
      t.cfg = s.cfg ∧ t.snap = s.snap := by
  subst ht
  exact ⟨⟨rfl, rfl⟩, ⟨rfl, rfl, rfl, rfl⟩, ⟨rfl, rfl, rfl, rfl, rfl, rfl⟩, ⟨rfl, rfl⟩, ⟨rfl, rfl⟩,
    ⟨rfl, fun _ => rfl, State.answerAt_consumeEvent s⟩, rfl, rfl⟩

/-- Settles O9. Each of the two reads records one whole register and has the frame above. -/
theorem viewReadsWholeRegisters : Obligations.ViewReadsWholeRegisters := by
  unfold Obligations.ViewReadsWholeRegisters
  rintro s (he | he)
  · exact ⟨_, step_viewSnap he, fun _ => rfl, fun h => by simp [he] at h, recordView_frame s _ rfl⟩
  · exact ⟨_, step_viewStatus he, fun h => by simp [he] at h, fun _ => rfl, recordView_frame s _ rfl⟩

end Sys2Proof.Proofs.Memory

/-! The encoding of 30: which operations the words of each format select (R81, R85, R87, 10 R30), that the encoder and the
decoder agree in both directions (R96), and that the word a step takes always selects an operation. -/

namespace Sys2Proof.Proofs.Encoding

open Sys2Proof Sys2Proof.Machine

/-! ## Words of a format's width (30 R80) -/

theorem lt_of_decode {f : Format} {w : Nat} {i : Instr} (h : decode f w = .ok i) : w < 2 ^ formatWidth f := by
  by_contra hw
  simp [decode, hw] at h

theorem decode_pop (w : BitVec 5) : decode .pop w.toNat = decodePop w := by
  have hw : w.toNat < 2 ^ formatWidth .pop := w.isLt
  simp [decode, hw]

theorem decode_aframe (w : BitVec 3) : decode .aframe w.toNat = decodeFrame w := by
  have hw : w.toNat < 2 ^ formatWidth .aframe := w.isLt
  simp [decode, hw]

theorem decode_phase (w : BitVec 4) : decode .phase w.toNat = decodePhase w := by
  have hw : w.toNat < 2 ^ formatWidth .phase := w.isLt
  simp [decode, hw]

/-- A number a format decodes is a word of that format. -/
theorem exists_word_of_decode {f : Format} {w : Nat} {i : Instr} (h : decode f w = .ok i) :
    ∃ v : BitVec (formatWidth f), w = v.toNat :=
  ⟨⟨w, lt_of_decode h⟩, rfl⟩

/-! ## `POP` (30 R85, R86) -/

/-- The operation that issues a port operation on its own. -/
def portInstr : PortOp → Instr
  | .set p l => .setLine p l
  | .read p => .readLine p

theorem encode_portInstr (op : PortOp) : encode (portInstr op) = (.pop, (popWord op).toNat) := by
  cases op <;> rfl

theorem outPinOfId_eq_some {id : BitVec 3} {p : OutPin} (h : outPinOfId id = some p) : id = pinId (outPin p) := by
  unfold outPinOfId at h
  split_ifs at h <;> cases h <;> assumption

theorem inPinOfId_eq_some {id : BitVec 3} {p : InPin} (h : inPinOfId id = some p) : id = pinId (inPin p) := by
  unfold inPinOfId at h
  split_ifs at h
  cases h
  assumption

/-- A `POP` word is its kind, its pin and its level (30 R85). -/
theorem pop_fields (w : BitVec 5) :
    w = (BitVec.ofBool (w.getLsbD 4) ++ w.extractLsb' 1 3) ++ BitVec.ofBool (w.getLsbD 0) := by
  revert w
  decide

theorem decodePop_popWord (op : PortOp) : decodePop (popWord op) = .ok (portInstr op) := by
  rcases op with ⟨p, l⟩ | ⟨p⟩ <;> cases p
  case read.dout => rfl
  all_goals cases l <;> rfl

/-- The fields of a word that decodes are those of the port operation it decodes to. -/
theorem popWord_of_decodePop {w : BitVec 5} {i : Instr} (h : decodePop w = .ok i) :
    ∃ op, w = popWord op ∧ i = portInstr op := by
  have hw := pop_fields w
  unfold decodePop at h
  split at h
  case h_1 p hkind hpin =>
    rw [hkind, outPinOfId_eq_some hpin] at hw
    exact ⟨.set p _, hw, (Except.ok.inj h).symm⟩
  case h_2 p hkind hpin hlevel =>
    rw [hkind, hlevel, inPinOfId_eq_some hpin] at hw
    exact ⟨.read p, hw, (Except.ok.inj h).symm⟩
  case h_3 => cases h

theorem decode_pop_eq_ok_iff (w : Nat) (i : Instr) :
    decode .pop w = .ok i ↔ ∃ op, w = (popWord op).toNat ∧ i = portInstr op := by
  constructor
  · intro h
    obtain ⟨v, rfl⟩ := exists_word_of_decode h
    obtain ⟨op, hv, hi⟩ := popWord_of_decodePop ((decode_pop v).symm.trans h)
    exact ⟨op, congrArg BitVec.toNat hv, hi⟩
  · rintro ⟨op, rfl, rfl⟩
    rw [decode_pop, decodePop_popWord]

/-! ## `AFRAME` (30 R81, R94) -/

/-- The two frames with `START` and `SGL` at 1, and no other, carry a channel. -/
theorem decodeFrame_cases (w : BitVec 3) :
    decodeFrame w = .error .reservedFrame ∧ w.toNat < 6 ∨
      ∃ ch < 2, w.toNat = 6 + ch ∧ decodeFrame w = .ok (.adcRead ch) := by
  revert w
  decide

theorem decode_aframe_eq_ok_iff (w : Nat) (i : Instr) :
    decode .aframe w = .ok i ↔ ∃ ch < 2, w = 6 + ch ∧ i = .adcRead ch := by
  constructor
  · intro h
    obtain ⟨v, rfl⟩ := exists_word_of_decode h
    replace h := (decode_aframe v).symm.trans h
    rcases decodeFrame_cases v with ⟨herr, -⟩ | ⟨ch, hch, hv, hok⟩
    · cases herr.symm.trans h
    · exact ⟨ch, hch, hv, Except.ok.inj (h.symm.trans hok)⟩
  · rintro ⟨ch, hch, rfl, rfl⟩
    interval_cases ch <;> rfl

/-! ## `CMD` (30 R87) -/

theorem decode_cmd_eq_ok_iff (w : Nat) (i : Instr) :
    decode .cmd w = .ok i ↔ ∃ v : BitVec 2, w = v.toNat ∧ i = decodeCmd v := by
  constructor
  · intro h
    obtain ⟨v, rfl⟩ := exists_word_of_decode h
    exact ⟨v, rfl, Except.ok.inj (h.symm.trans (decode_cmd v))⟩
  · rintro ⟨v, rfl, rfl⟩
    exact decode_cmd v

/-- The four commands have a word of their own, and it is the word that selects them. -/
theorem encode_decodeCmd (w : BitVec 2) :
    (decodeCmd w).wellFormed = true ∧ (decodeCmd w).hasOwnWord = true ∧ encode (decodeCmd w) = (.cmd, w.toNat) := by
  revert w
  decide

/-! ## `PHASE` (10 R30, 30 R96) -/

/-- A code that decodes is the code of a phase with that operation. -/
theorem phaseCode_of_decodePhase {w : BitVec 4} {i : Instr} (h : decodePhase w = .ok i) :
    ∃ p, phaseInstr p = some i ∧ w = phaseCode p := by
  unfold decodePhase at h
  split at h <;> cases h
  case h_1 hw => exact ⟨.idle, rfl, BitVec.eq_of_toNat_eq hw⟩
  case h_2 hw => exact ⟨.readT, rfl, BitVec.eq_of_toNat_eq hw⟩
  case h_3 hw => exact ⟨.readA, rfl, BitVec.eq_of_toNat_eq hw⟩
  case h_4 hw => exact ⟨.eval, rfl, BitVec.eq_of_toNat_eq hw⟩
  case h_5 hw => exact ⟨.drive, rfl, BitVec.eq_of_toNat_eq hw⟩
  case h_6 hw => exact ⟨.publish, rfl, BitVec.eq_of_toNat_eq hw⟩
  case h_7 hw => exact ⟨.shutdown, rfl, BitVec.eq_of_toNat_eq hw⟩

theorem decode_phase_eq_ok_iff (w : Nat) (i : Instr) :
    decode .phase w = .ok i ↔ ∃ p, phaseInstr p = some i ∧ w = (phaseCode p).toNat := by
  constructor
  · intro h
    obtain ⟨v, rfl⟩ := exists_word_of_decode h
    obtain ⟨p, hi, hv⟩ := phaseCode_of_decodePhase ((decode_phase v).symm.trans h)
    exact ⟨p, hi, congrArg BitVec.toNat hv⟩
  · rintro ⟨p, hi, rfl⟩
    exact decode_phaseCode hi

/-- The operation of a phase has a word of its own, and it is the phase's code. -/
theorem encode_phaseInstr {p : Phase} {i : Instr} (h : phaseInstr p = some i) :
    i.wellFormed = true ∧ i.hasOwnWord = true ∧ encode i = (.phase, (phaseCode p).toNat) := by
  cases p <;> cases h <;> exact ⟨rfl, rfl, rfl⟩

theorem exists_phaseInstr_iff (w : Nat) :
    (∃ p i, phaseInstr p = some i ∧ w = (phaseCode p).toNat) ↔ w < 7 := by
  constructor
  · rintro ⟨p, i, hi, rfl⟩
    cases p <;> cases hi <;> decide
  · intro hw
    refine ⟨phaseOfWord w, ?_⟩
    interval_cases w <;> exact ⟨_, rfl, rfl⟩

/-! ## The encoder and the decoder agree (30 R96) -/

/-- Settles O1. The operand of each format is read back by the description of what its words decode to. -/
theorem decodeReadsBackEveryEncoding : Obligations.DecodeReadsBackEveryEncoding := by
  unfold Obligations.DecodeReadsBackEveryEncoding
  intro i hwf hown
  cases i with
  | setLine p l => exact (decode_pop_eq_ok_iff _ _).mpr ⟨.set p l, rfl, rfl⟩
  | readLine p => exact (decode_pop_eq_ok_iff _ _).mpr ⟨.read p, rfl, rfl⟩
  | adcRead ch => exact (decode_aframe_eq_ok_iff _ _).mpr ⟨ch, Nat.blt_eq.mp hwf, rfl, rfl⟩
  | convTemp | convThresh | convLight | decide => cases hown
  | arm => exact decode_cmd 0
  | disarm => exact decode_cmd 1
  | toggle => exact decode_cmd 2
  | stop => exact decode_cmd 3
  | cycleStart => exact decode_phaseCode (p := .idle) rfl
  | readT => exact decode_phaseCode (p := .readT) rfl
  | readA => exact decode_phaseCode (p := .readA) rfl
  | eval => exact decode_phaseCode (p := .eval) rfl
  | drive => exact decode_phaseCode (p := .drive) rfl
  | publish => exact decode_phaseCode (p := .publish) rfl
  | shutdown => exact decode_phaseCode (p := .shutdown) rfl

/-- Settles O2. In each format the operation a word decodes to encodes to that word. -/
theorem everyWordHasOneMeaning : Obligations.EveryWordHasOneMeaning := by
  unfold Obligations.EveryWordHasOneMeaning
  intro f w i h
  cases f with
  | pop =>
    obtain ⟨op, rfl, rfl⟩ := (decode_pop_eq_ok_iff w i).mp h
    cases op <;> exact ⟨rfl, rfl, rfl⟩
  | aframe =>
    obtain ⟨ch, hch, rfl, rfl⟩ := (decode_aframe_eq_ok_iff w i).mp h
    exact ⟨Nat.blt_eq.mpr hch, rfl, rfl⟩
  | cmd =>
    obtain ⟨v, rfl, rfl⟩ := (decode_cmd_eq_ok_iff w i).mp h
    exact encode_decodeCmd v
  | phase =>
    obtain ⟨p, hi, rfl⟩ := (decode_phase_eq_ok_iff w i).mp h
    exact encode_phaseInstr hi

/-- The port operations of 30 R85, in the order of their words. -/
def portOps : List PortOp :=
  [.set .clk false, .set .clk true, .set .din false, .set .din true, .set .cs false, .set .cs true, .set .buz false,
    .set .buz true, .read .dout]

theorem mem_portOps (op : PortOp) : op ∈ portOps := by
  rcases op with ⟨p, l⟩ | ⟨p⟩ <;> cases p
  case read.dout => decide
  all_goals cases l <;> decide

theorem portOps_words :
    portOps.map (fun op => (popWord op).toNat) = [0x00, 0x01, 0x02, 0x03, 0x06, 0x07, 0x08, 0x09, 0x14] := rfl

/-- Settles O3. Each list of words is the range of its format's description. -/
theorem reservedWordsAreRejected : Obligations.ReservedWordsAreRejected := by
  unfold Obligations.ReservedWordsAreRejected
  refine ⟨fun w => ?pop, fun w => ?aframe, fun w => ?cmd, fun w => ?phase⟩
  case pop =>
    simp only [decode_pop_eq_ok_iff, ← portOps_words, List.mem_map, mem_portOps, true_and]
    exact ⟨fun ⟨_, op, hw, _⟩ => ⟨op, hw.symm⟩, fun ⟨op, hw⟩ => ⟨_, op, hw.symm, rfl⟩⟩
  case aframe =>
    simp only [decode_aframe_eq_ok_iff, List.mem_cons, List.not_mem_nil, or_false]
    constructor
    · rintro ⟨_, ch, hch, rfl, -⟩
      omega
    · rintro (rfl | rfl)
      · exact ⟨_, 0, by decide, rfl, rfl⟩
      · exact ⟨_, 1, by decide, rfl, rfl⟩
  case cmd =>
    refine ⟨fun ⟨_, h⟩ => lt_of_decode h, fun hw => ⟨_, (decode_cmd_eq_ok_iff w _).mpr ⟨⟨w, hw⟩, rfl, rfl⟩⟩⟩
  case phase =>
    simp only [decode_phase_eq_ok_iff]
    rw [exists_comm]
    exact exists_phaseInstr_iff w

/-- Settles O4. The words are those of the encoder, which decode to what they encode. -/
theorem specWordsDecode : Obligations.SpecWordsDecode := by
  unfold Obligations.SpecWordsDecode
  have hback := decodeReadsBackEveryEncoding
  refine ⟨hback (.setLine .cs true) rfl rfl, hback (.setLine .din false) rfl rfl, hback (.setLine .buz true) rfl rfl,
    hback (.readLine .dout) rfl rfl, hback (.adcRead 1) rfl rfl, hback .toggle rfl rfl, hback .shutdown rfl rfl,
    hback .readA rfl rfl, fun i hi => ⟨?_, hback .eval rfl rfl⟩⟩
  simp only [List.mem_cons, List.not_mem_nil, or_false] at hi
  rcases hi with rfl | rfl | rfl | rfl <;> rfl

/-! ## No step is refused (30 R87, R96) -/

theorem ctrlStep_ne_refused {s : State} {f : State → Host.Outcome State Fault Refusal} {r : Refusal}
    (h : f s ≠ .refused r) : s.ctrlStep f ≠ .refused r := by
  cases hh : s.halted with
  | true => rw [State.ctrlStep_halted hh]; nofun
  | false => rwa [State.ctrlStep_running hh]

theorem readPhase_ne_refused (s : State) (finish : State → State) (r : Refusal) :
    s.readPhase finish ≠ .refused r := by
  rcases State.readPhase_spec s finish with ⟨-, hstop⟩ | ⟨op, -, -, hnext⟩
  · rw [hstop]; nofun
  · rw [hnext]; nofun

/-- Every operation has a meaning: none of the 18 arms ends in a refusal, in any state. -/
theorem exec_ne_refused (i : Instr) (s : State) (r : Refusal) : exec i s ≠ .refused r := by
  cases i with
  | arm | disarm | toggle | stop | cycleStart => nofun
  | setLine | readLine | convTemp | convThresh | convLight | decide | eval | drive | publish =>
    simp only [exec, execSetLine, execReadLine, execConvTemp, execConvThresh, execConvLight, execDecide, execEval,
      execDrive, execPublish]
    exact ctrlStep_ne_refused nofun
  | readT | readA =>
    simp only [exec, execReadT, execReadA]
    exact ctrlStep_ne_refused (readPhase_ne_refused s _ r)
  | adcRead ch =>
    simp only [exec, execAdcRead]
    refine ctrlStep_ne_refused ?_
    cases channelOperand ch <;> nofun
  | shutdown =>
    simp only [exec, execShutdown]
    refine ctrlStep_ne_refused ?_
    cases shutdownProgram[s.upc.toNat]? <;> nofun

/-- Settles O6. The word a step takes decodes, and no operation refuses. -/
theorem noStepIsRefused : Obligations.NoStepIsRefused := by
  unfold Obligations.NoStepIsRefused
  intro s r
  unfold step
  cases hfetch : s.fetch with
  | none => nofun
  | some word =>
    obtain ⟨f, w⟩ := word
    obtain ⟨i, hi⟩ := fetch_decodes s f w hfetch
    simp only [hi]
    exact exec_ne_refused i s.consumeEvent r

/-! ## A step runs the operation its word selects (30 R87, R96) -/

theorem step_ctrl {s : State} {i : Instr} (he : s.eventAt 0 = .ctrl) (hi : s.ctrlInstr = some i) :
    step s = exec i s.consumeEvent := by
  simp only [step_spec, he, hi]

theorem step_tick_idle {s : State} (he : s.eventAt 0 = .tick) (hp : s.phase = .idle) :
    step s = exec .cycleStart s.consumeEvent := by
  simp only [step_spec, he, hp, if_true]

/-- A turn of `CTRL` outside `IDLE` runs the operation of its phase, which the phase's code decodes to. -/
theorem step_ctrl_of_phase {s : State} {p : Phase} {i : Instr} (he : s.eventAt 0 = .ctrl) (hp : s.phase = p)
    (hidle : p ≠ .idle) (hi : phaseInstr p = some i) :
    decode .phase (phaseCode p).toNat = .ok i ∧ step s = exec i s.consumeEvent := by
  subst hp
  exact ⟨decode_phaseCode hi, step_ctrl he (by rw [State.ctrlInstr, if_neg hidle, hi])⟩

theorem step_of_cmd {s : State} {w : BitVec 2} (he : s.eventAt 0 = .cmd w) :
    decode .cmd w.toNat = .ok (decodeCmd w) ∧ step s = exec (decodeCmd w) s.consumeEvent :=
  ⟨decode_cmd w, by simp only [step_spec, he]⟩

/-- Settles O5, by the agent that takes the step. -/
theorem stepRunsTheDecodedOperation : Obligations.StepRunsTheDecodedOperation := by
  unfold Obligations.StepRunsTheDecodedOperation
  refine ⟨?phase, ?command, ?idle, fun s => ⟨rfl, State.eventAt_consumeEvent s, State.answerAt_consumeEvent s⟩⟩
  case phase =>
    intro s p w i hmem he hp
    simp only [List.mem_cons, List.not_mem_nil, or_false, Prod.mk.injEq] at hmem
    rcases hmem with ⟨rfl, rfl, rfl⟩ | ⟨rfl, rfl, rfl⟩ | ⟨rfl, rfl, rfl⟩ | ⟨rfl, rfl, rfl⟩ | ⟨rfl, rfl, rfl⟩ |
      ⟨rfl, rfl, rfl⟩ <;> exact step_ctrl_of_phase he hp nofun rfl
  case command =>
    intro s w i hmem he
    simp only [List.mem_cons, List.not_mem_nil, or_false, Prod.mk.injEq] at hmem
    rcases hmem with ⟨rfl, rfl⟩ | ⟨rfl, rfl⟩ | ⟨rfl, rfl⟩ | ⟨rfl, rfl⟩ <;> exact step_of_cmd he
  case idle =>
    intro s hp hevent
    refine ⟨decode_phaseCode (p := .idle) rfl, ?_⟩
    rcases hevent with he | ⟨he, hstop⟩
    · exact step_tick_idle he hp
    · exact step_ctrl he (by rw [State.ctrlInstr, if_pos hp, if_pos hstop])

end Sys2Proof.Proofs.Encoding

/-! The port operations of 40: what `SET_LINE` and `READ_LINE` do on either answer of `PORT` (R111, R112, 10 R30, 60 R225),
and that a step issues at most one port operation (R113). -/

namespace Sys2Proof.Proofs.PortOps

open Sys2Proof Sys2Proof.Machine

/-! ## At most one port operation to a step (40 R113, 20 R65) -/

/-- The trace and the script of `PORT`'s answers move together: neither moves, or one entry is added and one answer is
used. -/
theorem trace_env_of_ctrlEffect {s t : State} (h : MachineState.CtrlEffect s t) :
    (t.trace = s.trace ∧ t.env = s.env) ∨ ∃ e, t.trace = s.trace ++ [e] ∧ t.env = s.env.dropAnswer := by
  cases h with
  | beginShutdown | beginCycle | eval | publish => exact .inl (by simp)
  | fault op => exact .inr ⟨traceEntry op .ioFault, by simp⟩
  | drive b => exact .inr ⟨traceEntry (.set .buz (buzzerBit s.buzz)) (.ok b), by simp⟩
  | readRow op b | endReadT op b | endReadA op b | shutdownRow op b | endShutdown op b =>
    exact .inr ⟨traceEntry op (.ok b), by simp⟩

/-- Settles O23. Only the operation of a phase issues port operations, and it completes or faults at the first. -/
theorem atMostOnePortOperationPerStep : Obligations.AtMostOnePortOperationPerStep := by
  unfold Obligations.AtMostOnePortOperationPerStep
  intro s t hreset h
  cases MachineState.stepEffect_of_step h with
  | reset he => exact absurd he hreset
  | outside => exact .inl ⟨rfl, State.answerAt_consumeEvent s⟩
  | ctrl i _ hi hx =>
    have heffect := MachineState.ctrlEffect_of_exec (s := s.consumeEvent) hi hx
    rcases trace_env_of_ctrlEffect heffect with ⟨htrace, henv⟩ | ⟨e, htrace, henv⟩
    · exact .inl ⟨htrace, State.answerAt_congr (s := s.consumeEvent) henv⟩
    · exact .inr ⟨e, htrace, State.answerAt_dropAnswer (s := s.consumeEvent) henv⟩

/-! ## One port operation and its answer (40 R111, R112, 60 R225) -/

/-- A state with the trace, the lines and the script of an answered port operation has issued exactly that one. -/
theorem onePortOp_of_answered {s t : State} {op : PortOp} {a : PortAnswer} (htrace : t.trace = (s.answered op a).trace)
    (hlines : t.lines = (s.answered op a).lines) (henv : t.env = (s.answered op a).env) : OnePortOp s t op a := by
  refine ⟨htrace, fun q => ?_, State.answerAt_dropAnswer henv⟩
  rw [hlines, State.answered_lines]
  cases op with
  | set p l => cases a <;> simp
  | read p => simp

/-- What the fault entry of 60 R225 leaves behind when `PORT` answers `IoFault` to `op`. -/
theorem portFault_spec (s : State) (op : PortOp) {t : State}
    (ht : t = (s.answered op .ioFault).enterFault .ioFault (popWord op)) :
    OnePortOp s t op .ioFault ∧ EnteredFault s t .ioFault (popWord op) s.phase s.upc ∧ SameOutside s t ∧
      SameSamples s t ∧ SameReading s t ∧ SameLatches s t ∧ t.snap = s.snap ∧ t.result = s.result := by
  subst ht
  refine ⟨onePortOp_of_answered rfl rfl rfl, ?entered, ⟨rfl, rfl⟩, ⟨rfl, rfl, rfl, rfl⟩,
    ⟨rfl, rfl, rfl, rfl, rfl, rfl⟩, ⟨rfl, rfl⟩, rfl, rfl⟩
  simp [EnteredFault, runCode]

/-! ## The advance of the sequencer (10 R30, R37) -/

theorem advance_position (s : State) : (s.advance.phase, s.advance.upc) = nextPosition s.phase s.upc := by
  unfold State.advance nextPosition
  cases hp : s.phase with
  | readT | readA | shutdown =>
    by_cases hu : s.upc.toNat < maxUpc s.phase <;> rw [hp, maxUpc] at hu <;> simp [hp, hu, maxUpc]
  | drive => simp
  | idle | eval | publish | stopped | faulted => simp [hp]

/-- The advance writes `STATUS.RUN` with the entry into `STOPPED`, and no other bit of `STATUS` (45 R202). -/
theorem advance_status {s : State} (hrun : s.halted = false) :
    s.advance.status = if s.advance.phase = .stopped then statusWithRun s.status 1 else s.status := by
  unfold State.advance
  cases hp : s.phase with
  | stopped | faulted => simp [State.halted, hp] at hrun
  | readT | readA | shutdown =>
    by_cases hu : s.upc.toNat < maxUpc s.phase <;> rw [hp, maxUpc] at hu <;> simp [hp, hu, maxUpc, runCode]
  | drive => simp
  | idle | eval | publish => simp [hp]

theorem advance_frame (s : State) :
    SameOutside s s.advance ∧ SameSamples s s.advance ∧ SameReading s s.advance ∧ SameLatches s s.advance ∧
      s.advance.snap = s.snap ∧ s.advance.result = s.result := by
  simp [SameOutside, SameSamples, SameReading, SameLatches]

/-! ## `SET_LINE` (40 R111) -/

theorem exec_setLine_running (p : OutPin) (l : Level) {s : State} (hrun : s.halted = false) :
    exec (.setLine p l) s = .next (s.portOp (.set p l) fun _ t => t.advance) := by
  simp only [exec, execSetLine, State.ctrlStep_running hrun]

/-- Settles O20. On `Ok` the answered state is advanced, and an advance moves the position and `RUN` alone. -/
theorem setLineResult : Obligations.SetLineResult := by
  unfold Obligations.SetLineResult
  intro p l s hrun
  refine ⟨_, exec_setLine_running p l hrun, ?_⟩
  cases ha : s.answerAt 0 with
  | ok b =>
    rw [State.portOp_ok ha]
    exact ⟨onePortOp_of_answered (by simp) (by simp) (by simp),
      fun _ _ => ⟨advance_position _, State.advance_reports _, advance_status (s := s.answered _ _) hrun⟩, nofun,
      advance_frame (s.answered _ _)⟩
  | ioFault =>
    obtain ⟨hport, hentered, hframe⟩ := portFault_spec s (.set p l) (State.portOp_ioFault ha _)
    exact ⟨hport, nofun, fun _ => hentered, hframe⟩

/-! ## `READ_LINE` (40 R112) -/

theorem exec_readLine_running (p : InPin) {s : State} (hrun : s.halted = false) :
    exec (.readLine p) s =
      .next (s.portOp (.read p) fun b t => { (t.deliverBit b).advance with result := .bit b }) := by
  simp only [exec, execReadLine, State.ctrlStep_running hrun]

/-- The issuing micro-step of a read phase shifts the bit into `ACC` (41 R126); the other phases have none. -/
theorem deliverBit_acc (s : State) (b : Level) :
    (s.deliverBit b).acc = if s.phase = .readT ∨ s.phase = .readA then shiftInBit s.acc b else s.acc := by
  unfold State.deliverBit
  cases hp : s.phase <;> simp

/-- Settles O21. On `Ok` the bit is shifted in where the phase reads, and the answered state is advanced. -/
theorem readLineResult : Obligations.ReadLineResult := by
  unfold Obligations.ReadLineResult
  intro p s hrun
  refine ⟨_, exec_readLine_running p hrun, ?_⟩
  cases ha : s.answerAt 0 with
  | ok b =>
    rw [State.portOp_ok ha]
    have hrun' : ((s.answered (.read p) (.ok b)).deliverBit b).halted = false := by
      simpa [State.halted] using hrun
    refine ⟨onePortOp_of_answered (by simp) (by simp) (by simp), fun b' hb => ?answered, nofun, ?frame⟩
    case answered =>
      obtain rfl := PortAnswer.ok.inj hb
      refine ⟨rfl, ?position, ?acc, by simp, ?status⟩
      case position => simpa using advance_position ((s.answered (.read p) (.ok b)).deliverBit b)
      case acc => exact (State.advance_acc _).trans (deliverBit_acc (s.answered (.read p) (.ok b)) b)
      case status => simpa using advance_status hrun'
    case frame => simp [SameOutside, SameReading, SameLatches]
  | ioFault =>
    obtain ⟨hport, hentered, houtside, ⟨hacc, hch, hrawT, hrawA⟩, hreading, hlatches, hsnap, hresult⟩ :=
      portFault_spec s (.read p) (State.portOp_ioFault ha _)
    cases p
    exact ⟨hport, nofun, fun _ => ⟨hresult, hacc, hentered⟩, houtside, hch, hrawT, hrawA, hreading, hlatches, hsnap⟩

end Sys2Proof.Proofs.PortOps

/-! The read transaction of 41: the table of its 37 port operations (R123), what a whole `ADC_READ` does when every
answer of `PORT` is `Ok` (R126, R128, R131, R133), where it stops at an `IoFault` (R129) or at a channel the block does
not have (R121), and one micro-step of a read phase (45 R193, R194). -/

namespace Sys2Proof.Proofs.AdcRead

open Sys2Proof Sys2Proof.Machine

/-! ## The rows of 41 R123 -/

/-- The port operation drives this line. -/
def setsLine (p : OutPin) : PortOp → Bool
  | .set q _ => q = p
  | .read _ => false

/-- The port operation is a `READ_LINE`. -/
def readsLine : PortOp → Bool
  | .set _ _ => false
  | .read _ => true

/-- The rows of 41 R123 between the two that open and the one that closes the transaction on `CS`. -/
def innerRows (c : Channel) : List PortOp :=
  clkIdle ++ (addressBits c).flatMap shiftOut ++ (List.replicate 8 shiftIn).flatten

theorem innerRows_length (c : Channel) : (innerRows c).length = 34 := by cases c <;> rfl

theorem adcProgram_eq (c : Channel) :
    adcProgram c = .set .cs true :: .set .cs false :: (innerRows c ++ [.set .cs true]) := by
  cases c <;> rfl

theorem innerRows_keep_cs (c : Channel) : ∀ op ∈ innerRows c, setsLine .cs op = false := by
  cases c <;> decide

theorem adcProgram_keeps_buz (c : Channel) : ∀ op ∈ adcProgram c, setsLine .buz op = false := by
  cases c <;> decide

/-- The reads are the rows 14, 17, ..., 35. -/
theorem readsLine_adcProgram (c : Channel) :
    ∀ u < 37, (adcProgram c)[u]?.map readsLine = some (decide (14 ≤ u ∧ u % 3 = 2)) := by
  cases c <;> decide

theorem readsLine_of_row {c : Channel} {u : Nat} {op : PortOp} (hop : (adcProgram c)[u]? = some op) :
    readsLine op = decide (14 ≤ u ∧ u % 3 = 2) := by
  obtain ⟨hu, -⟩ := List.getElem?_eq_some_iff.mp hop
  rw [adcProgram_length] at hu
  have hrow := readsLine_adcProgram c u hu
  rw [hop] at hrow
  exact Option.some.inj hrow

theorem transactionWords_row {c : Channel} {u : Nat} {op : PortOp} (hop : (adcProgram c)[u]? = some op) :
    (transactionWords c)[u]? = some (popWord op) := by
  rw [← MachineState.map_popWord_adcProgram, List.getElem?_map, hop]
  rfl

theorem map_word_okTrace (ops : List PortOp) (bits : Nat → Level) :
    (okTrace ops bits).map TraceEntry.word = ops.map popWord := by
  induction ops generalizing bits with
  | nil => rfl
  | cons op ops ih => simp [okTrace, traceEntry, ih]

/-- Settles O24. The words are computed from the composition of 30 R98. -/
theorem transactionTable : Obligations.TransactionTable := by
  unfold Obligations.TransactionTable
  refine fun c => ⟨MachineState.map_popWord_adcProgram c, ?_⟩
  rw [← MachineState.map_popWord_adcProgram, List.length_map, adcProgram_length]

/-! ## The lines (41 R131) -/

theorem get_after_of_not_setsLine {p : OutPin} {op : PortOp} (h : setsLine p op = false) (l : Lines)
    (a : PortAnswer) : (l.after op a).get p = l.get p := by
  cases op with
  | read q => rw [Lines.after_read]
  | set q v =>
    have hne : ¬ p = q := fun e => by simp [setsLine, e] at h
    cases a <;> simp [hne]

theorem get_okLines_of_not_setsLine {p : OutPin} {ops : List PortOp} (h : ∀ op ∈ ops, setsLine p op = false)
    (l : Lines) : (okLines l ops).get p = l.get p := by
  induction ops generalizing l with
  | nil => rfl
  | cons op ops ih =>
    obtain ⟨hop, hops⟩ := List.forall_mem_cons.mp h
    rw [okLines, ih hops, get_after_of_not_setsLine hop]

/-- A whole transaction leaves `CS` high, the clock low and the channel on `DIN`, whatever the lines were. -/
theorem okLines_adcProgram (c : Channel) (l : Lines) :
    okLines l (adcProgram c) =
      { clk := .driven false, din := .driven (channelBit c), cs := .driven true, buz := l.buz } := by
  cases c <;> rfl

/-- `CS` where `PORT` answers `IoFault` at row `u`: the rows 0, 1 and 36 drive it, the others find it low. -/
theorem cs_of_fault_at_row {c : Channel} {u : Nat} {op : PortOp} (hop : (adcProgram c)[u]? = some op) (l : Lines) :
    ((okLines l ((adcProgram c).take u)).after op .ioFault).cs =
      if u = 0 ∨ u = 1 ∨ u = 36 then .unknown else .driven false := by
  rw [adcProgram_eq] at hop ⊢
  match u with
  | 0 | 1 =>
    obtain rfl := Option.some.inj hop
    rfl
  | k + 2 =>
    simp only [List.getElem?_cons_succ] at hop
    rcases Nat.lt_trichotomy k 34 with hk | rfl | hk
    · rw [List.getElem?_append_left (by rwa [innerRows_length])] at hop
      have hkeep := innerRows_keep_cs c
      have hcs := get_okLines_of_not_setsLine (fun op h => hkeep op (List.mem_of_mem_take (i := k) h))
        ((l.put .cs (.driven true)).put .cs (.driven false))
      rw [if_neg (by omega), List.take_succ_cons, List.take_succ_cons,
        List.take_append_of_le_length (by rw [innerRows_length]; omega)]
      exact (get_after_of_not_setsLine (hkeep op (List.mem_of_getElem? hop)) _ .ioFault).trans hcs
    · rw [List.getElem?_append_right (by rw [innerRows_length]), innerRows_length] at hop
      obtain rfl := Option.some.inj hop
      rfl
    · rw [List.getElem?_eq_none (by simp [innerRows_length]; omega)] at hop
      cases hop

theorem buz_of_fault_at_row {c : Channel} {u : Nat} {op : PortOp} (hop : (adcProgram c)[u]? = some op) (l : Lines) :
    ((okLines l ((adcProgram c).take u)).after op .ioFault).buz = l.buz := by
  have hkeep := adcProgram_keeps_buz c
  have hbuz := get_okLines_of_not_setsLine (fun op h => hkeep op (List.mem_of_mem_take (i := u) h)) l
  exact (get_after_of_not_setsLine (hkeep op (List.mem_of_getElem? hop)) _ .ioFault).trans hbuz

/-! ## The sample (41 R126, 30 R93) -/

/-- A shift puts the new bit lowest and moves every other bit up by one. -/
theorem getLsbD_shiftInBit (acc : BitVec 8) (b : Bool) (j : Nat) (hj : j < 8) :
    (shiftInBit acc b).getLsbD j = if j = 0 then b else acc.getLsbD (j - 1) := by
  cases j with
  | zero => simp [shiftInBit]
  | succ j => simp [shiftInBit, hj, BitVec.getLsbD_eq_getElem (show j < 8 by omega)]

/-- The last bit to arrive is bit 0, the one before it bit 1, and so on. -/
theorem getLsbD_sampleOfBits (bits : List Level) (j : Nat) (hj : j < 8) :
    (sampleOfBits bits).getLsbD j = bits.reverse.getD j false := by
  induction bits using List.reverseRecOn generalizing j with
  | nil => simp [sampleOfBits]
  | append_singleton bits b ih =>
    rw [MachineState.sampleOfBits_append, getLsbD_shiftInBit _ _ _ hj, List.reverse_append]
    cases j with
    | zero => rfl
    | succ j => simpa using ih j (by omega)

/-- The read at row `14 + 3 i` delivers bit `7 - i` of the sample. -/
theorem getLsbD_sampleOfBits_adcProgram (c : Channel) (bits : Nat → Level) (i : Nat) (hi : i < 8) :
    (sampleOfBits (readBits (adcProgram c) bits)).getLsbD (7 - i) = bits (14 + 3 * i) := by
  have hindex : 7 - (7 - i) = i := by omega
  rw [Memory.readBits_adcProgram, getLsbD_sampleOfBits _ _ (by omega), List.getD_eq_getElem _ _ (by simp; omega),
    List.getElem_reverse]
  simp [hindex]

/-! ## A transaction whose answers are all `Ok` (41 R120, R128, R133) -/

/-- Settles O26, from the state that `exec_adcRead_ok` writes out. -/
theorem adcReadCompletes : Obligations.AdcReadCompletes := by
  unfold Obligations.AdcReadCompletes
  intro c s bits hrun hok
  have hlines := okLines_adcProgram c s.lines
  have hwords := (map_word_okTrace (adcProgram c) bits).trans (MachineState.map_popWord_adcProgram c)
  exact ⟨_, Memory.exec_adcRead_ok c hrun hok, rfl, hwords, rfl, rfl, getLsbD_sampleOfBits_adcProgram c bits,
    congrArg Lines.cs hlines, congrArg Lines.clk hlines, congrArg Lines.din hlines, (congrArg Lines.buz hlines :),
    rfl, rfl, rfl, rfl, ⟨rfl, rfl, rfl, rfl, rfl, rfl⟩, ⟨rfl, rfl⟩, ⟨rfl, rfl⟩, ⟨rfl, rfl⟩, rfl,
    State.answerAt_dropAnswers 37 rfl⟩

/-- Settles O28. The sample is made of the answers alone, and a whole transaction drives `CS`, `CLK` and `DIN`. -/
theorem adcReadIndependentOfHistory : Obligations.AdcReadIndependentOfHistory := by
  unfold Obligations.AdcReadIndependentOfHistory
  intro c s s' bits hrun hrun' hok hok'
  refine ⟨_, _, Memory.exec_adcRead_ok c hrun hok, Memory.exec_adcRead_ok c hrun' hok', rfl, rfl, ?_⟩
  simp only [okLines_adcProgram, and_self]

/-! ## A transaction that an `IoFault` abandons (41 R129) -/

/-- `r` is the machine after `rows` have been performed from `s` on, all answered `Ok`: what the fault entry at the next
row, and the observations after it, depend on. -/
structure AfterRows (s r : State) (rows : List PortOp) (bits : Nat → Level) : Prop where
  trace : r.trace = s.trace ++ okTrace rows bits
  lines : r.lines = okLines s.lines rows
  upc : r.upc = s.upc + BitVec.ofNat 6 rows.length
  env : r.env = s.env.dropAnswers rows.length
  phase : r.phase = s.phase
  reports : r.reports = s.reports
  result : r.result = s.result

theorem AfterRows.nil (s : State) (bits : Nat → Level) : AfterRows s s [] bits :=
  ⟨(List.append_nil _).symm, rfl, (BitVec.add_zero _).symm, rfl, rfl, rfl, rfl⟩

/-- One more row in front. -/
theorem AfterRows.cons {s r : State} {op : PortOp} {rows : List PortOp} {bits : Nat → Level}
    (h : AfterRows ((s.answered op (.ok (bits 0))).microAcc op (bits 0)).nextMicro r rows fun k => bits (k + 1)) :
    AfterRows s r (op :: rows) bits where
  trace := by simpa [okTrace] using h.trace
  lines := by simpa [okLines, Lines.after_ok s.lines op (bits 0)] using h.lines
  upc := by
    have hupc := h.upc
    simp only [State.nextMicro_upc, State.microAcc_upc, State.answered_upc] at hupc
    rw [hupc, List.length_cons, Nat.add_comm, BitVec.ofNat_add, BitVec.add_assoc]
    rfl
  env := by simpa [Env.dropAnswers] using h.env
  phase := by simpa using h.phase
  reports := by simpa using h.reports
  result := by simpa using h.result

/-- While `PORT` answers `Ok`, the rows before a row `op` are performed and the transaction goes on from `op`. -/
theorem runTransaction_skip (rows : List PortOp) (op : PortOp) (rest : List PortOp) {s : State} {bits : Nat → Level}
    (h : AnswersOk s rows.length bits) :
    ∃ r, AfterRows s r rows bits ∧ s.runTransaction (rows ++ op :: rest) = r.runTransaction (op :: rest) := by
  induction rows generalizing s bits with
  | nil => exact ⟨s, AfterRows.nil s bits, rfl⟩
  | cons row rows ih =>
    have htail := h.tail (t := ((s.answered row (.ok (bits 0))).microAcc row (bits 0)).nextMicro) (by simp)
    obtain ⟨r, hr, hrun⟩ := ih htail
    obtain ⟨op', rest', hcons⟩ : ∃ op' rest', rows ++ op :: rest = op' :: rest' := by cases rows <;> simp
    refine ⟨r, hr.cons, ?_⟩
    rw [List.cons_append, hcons, State.runTransaction_cons, State.microStep_ok (h 0 (by simp)), ← hcons, hrun]

theorem runTransaction_ioFault {s : State} (h : s.answerAt 0 = .ioFault) (op : PortOp) (rest : List PortOp) :
    s.runTransaction (op :: rest) = (s.answered op .ioFault).enterFault .ioFault (popWord op) := by
  cases rest with
  | nil => rw [State.runTransaction_single, State.microStep_ioFault h]
  | cons op' rest => rw [State.runTransaction_cons, State.microStep_ioFault h]

/-- "any IoFault abandons the transaction at that u" (41 R120): the rows before `u` are performed, and row `u` ends in
the fault entry. -/
theorem runTransaction_abandoned {ops : List PortOp} {u : Nat} {op : PortOp} (hop : ops[u]? = some op) {s : State}
    {bits : Nat → Level} (hok : AnswersOk s u bits) (hfault : s.answerAt u = .ioFault) :
    ∃ r, AfterRows s r (ops.take u) bits ∧
      s.runTransaction ops = (r.answered op .ioFault).enterFault .ioFault (popWord op) := by
  obtain ⟨hu, hget⟩ := List.getElem?_eq_some_iff.mp hop
  have hlen : (ops.take u).length = u := List.length_take_of_le hu.le
  have hsplit : ops = ops.take u ++ op :: ops.drop (u + 1) := by
    rw [← hget, ← List.drop_eq_getElem_cons hu, List.take_append_drop]
  obtain ⟨r, hr, hrun⟩ := runTransaction_skip (ops.take u) op (ops.drop (u + 1)) (s := s) (bits := bits)
    (by rwa [hlen])
  have hr0 : r.answerAt 0 = .ioFault := by
    rw [State.answerAt_dropAnswers (s := s) u (by rw [hr.env, hlen]), Nat.zero_add, hfault]
  refine ⟨r, hr, ?_⟩
  rw [← runTransaction_ioFault hr0 op (ops.drop (u + 1)), ← hrun, ← hsplit]

/-- Settles O27. The rows before `u` are performed; the fault entry at row `u` records its word and its number. -/
theorem adcReadAbandonedAtFirstIoFault : Obligations.AdcReadAbandonedAtFirstIoFault := by
  unfold Obligations.AdcReadAbandonedAtFirstIoFault
  intro c s bits u hrun hu hok hfault
  have hlen : u < (adcProgram c).length := by rwa [adcProgram_length]
  have hop : (adcProgram c)[u]? = some (adcProgram c)[u] := List.getElem?_eq_getElem hlen
  obtain ⟨r, hr, habandoned⟩ := runTransaction_abandoned hop (s := { s with ch := c, upc := 0 }) hok hfault
  obtain ⟨hcfg, -, hrawT, hrawA, hvalid, htemp, hthresh, hlight, hseen, hbuzz, halarm, hstop, hsnap, hview⟩ :=
    State.runTransaction_frame (adcProgram c) { s with ch := c, upc := 0 }
  obtain ⟨-, hentered, -, -, -, -, -, hresult⟩ := PortOps.portFault_spec r (adcProgram c)[u] habandoned
  have hupc : r.upc = BitVec.ofNat 6 u := by
    rw [hr.upc, List.length_take_of_le hlen.le]
    exact BitVec.zero_add _
  refine ⟨_, _, hop, Memory.exec_adcRead_running c hrun, ?trace, ?entered, ?cs, ?buz, hresult.trans hr.result, hrawT,
    hrawA, ⟨hvalid, htemp, hthresh, hlight, hseen, hbuzz⟩, ⟨halarm, hstop⟩, ⟨hcfg, hview⟩, hsnap⟩
  case trace =>
    rw [habandoned, State.enterFault_trace, State.answered_trace, hr.trace]
    cases (adcProgram c)[u] <;> rfl
  case entered => simpa [EnteredFault, hr.phase, hr.reports, hupc] using hentered
  case cs =>
    rw [habandoned, State.enterFault_lines, State.answered_lines, hr.lines]
    exact cs_of_fault_at_row hop s.lines
  case buz =>
    rw [habandoned, State.enterFault_lines, State.answered_lines, hr.lines]
    exact buz_of_fault_at_row hop s.lines

/-! ## A channel the block does not have (41 R121) -/

theorem channelOperand_eq_none {ch : Nat} (h : 2 ≤ ch) : channelOperand ch = none := by
  match ch, h with
  | _ + 2, _ => rfl

theorem exec_adcRead_invalid {ch : Nat} {s : State} (hch : 2 ≤ ch) (hrun : s.halted = false) :
    exec (.adcRead ch) s = .next (State.enterFault { s with upc := 0 } .invalidChannel 0) := by
  simp only [exec, execAdcRead, State.ctrlStep_running hrun, channelOperand_eq_none hch]

/-- Settles O25. The fault is entered before any port operation, from `UPC` 0 in the phase of the call. -/
theorem invalidChannelIsRejected : Obligations.InvalidChannelIsRejected := by
  unfold Obligations.InvalidChannelIsRejected
  intro ch s hch hrun
  refine ⟨_, exec_adcRead_invalid hch hrun, ?entered, ⟨rfl, fun _ => rfl, fun _ => rfl⟩, ⟨rfl, rfl⟩,
    ⟨rfl, rfl, rfl, rfl⟩, ⟨rfl, rfl, rfl, rfl, rfl, rfl⟩, ⟨rfl, rfl⟩, rfl, rfl⟩
  case entered => simp [EnteredFault, runCode]

/-! ## One micro-step of a read phase (45 R193, R194) -/

theorem readPhase_ok {s : State} {b : Level} (hu : s.upc.toNat < 36) (hok : s.answerAt 0 = .ok b)
    (finish : State → State) :
    ∃ op, (adcProgram s.ch)[s.upc.toNat]? = some op ∧
      s.readPhase finish = .next ((s.answered op (.ok b)).microAcc op b).nextMicro := by
  rcases State.readPhase_spec s finish with ⟨hbeyond, -⟩ | ⟨op, -, hop, hnext⟩
  · omega
  · refine ⟨op, hop, ?_⟩
    rw [hnext, State.microStep_ok hok, if_pos (by simpa [maxUpc] using hu)]

/-- Row 0 clears `ACC`, the reads shift their bit in, and the other rows leave it (41 R123, R126). -/
theorem microAcc_acc_of_row {s : State} {op : PortOp} (hop : (adcProgram s.ch)[s.upc.toNat]? = some op) (b : Level) :
    ((s.answered op (.ok b)).microAcc op b).acc =
      if s.upc.toNat = 0 then 0
      else if 14 ≤ s.upc.toNat ∧ s.upc.toNat % 3 = 2 then shiftInBit s.acc b else s.acc := by
  have hreads := readsLine_of_row hop
  cases op with
  | read p =>
    have hrow : 14 ≤ s.upc.toNat ∧ s.upc.toNat % 3 = 2 := of_decide_eq_true hreads.symm
    rw [if_neg (by omega), if_pos hrow]
    rfl
  | set p l =>
    have hrow : ¬ (14 ≤ s.upc.toNat ∧ s.upc.toNat % 3 = 2) := of_decide_eq_false hreads.symm
    have hzero : s.upc = 0 ↔ s.upc.toNat = 0 := (BitVec.toNat_inj (y := 0)).symm
    rw [State.microAcc_set_acc, if_neg hrow]
    exact if_congr hzero rfl rfl

/-- Settles O30. Below row 36 both read phases perform the row at `UPC` and move to the next one. -/
theorem readPhaseMicroStep : Obligations.ReadPhaseMicroStep := by
  unfold Obligations.ReadPhaseMicroStep
  intro i s b hi hrun hu hok
  have hexec : ∃ op, (adcProgram s.ch)[s.upc.toNat]? = some op ∧
      exec i s = .next ((s.answered op (.ok b)).microAcc op b).nextMicro := by
    rcases hi with rfl | rfl
    · rw [MachineState.exec_readT_running hrun]
      exact readPhase_ok hu hok _
    · rw [MachineState.exec_readA_running hrun]
      exact readPhase_ok hu hok _
  obtain ⟨op, hop, hnext⟩ := hexec
  refine ⟨_, op, hnext, transactionWords_row hop, PortOps.onePortOp_of_answered (by simp) (by simp) (by simp), ?phase,
    ?upc, microAcc_acc_of_row hop b, ?frame⟩
  case phase => simp
  case upc => simp
  case frame => simp [SameReading, SameLatches, SameStatus, SameOutside]

end Sys2Proof.Proofs.AdcRead

/-! The conversions of 42: the rounding `Q` (R145), the thresholds built from a calibration (R149 to R152), the thermistor
law (R141 to R144), and the three conversion operations of the machine (R148, R153, R155). -/

namespace Sys2Proof.Proofs.Conversion

open Sys2Proof Sys2Proof.Machine

/-! ## The rounding `Q` (42 R145) -/

/-- The computed `Q` is the nearest integer, the even one at a tie. -/
theorem isQ_qInt (x : ℝ) : IsQ x (qInt x) := by
  have hlo := Int.floor_le (x * 65536)
  have hhi := Int.lt_floor_add_one (x * 65536)
  have hdown : |x * 65536 - ⌊x * 65536⌋| = x * 65536 - ⌊x * 65536⌋ := abs_of_nonneg (by linarith)
  have hup : |x * 65536 - (⌊x * 65536⌋ + 1 : ℤ)| = 1 - (x * 65536 - ⌊x * 65536⌋) := by
    rw [abs_of_nonpos (by push_cast; linarith)]
    push_cast
    ring
  unfold IsQ qInt roundHalfEven
  split_ifs with hbelow habove heven
  · exact ⟨by linarith, fun h => by linarith⟩
  · exact ⟨by linarith, fun h => by linarith⟩
  · exact ⟨by linarith, fun _ => Int.even_iff.mpr heven⟩
  · exact ⟨by linarith, fun _ => (Int.not_even_iff_odd.mp (mt Int.even_iff.mp heven)).add_one⟩

/-- Two neighbours in the wrong order could only be the two ends of one tie, and both would be even. -/
theorem le_of_isQ {x y : ℝ} {p q : ℤ} (hp : IsQ x p) (hq : IsQ y q) (hxy : x ≤ y) : p ≤ q := by
  obtain ⟨hxp, hpeven⟩ := hp
  obtain ⟨hyq, hqeven⟩ := hq
  obtain ⟨hxlo, -⟩ := abs_le.mp hxp
  obtain ⟨-, hyhi⟩ := abs_le.mp hyq
  by_contra hlt
  have hle : q + 1 ≤ p := by omega
  have hle' : (q : ℝ) + 1 ≤ p := by exact_mod_cast hle
  have hx : x * 65536 - p = -(1 / 2) := by linarith
  have hy : y * 65536 - q = 1 / 2 := by linarith
  have hpq : p = q + 1 := by
    have : (p : ℝ) = q + 1 := by linarith
    exact_mod_cast this
  have hp : Even p := hpeven (by rw [hx]; norm_num)
  have hq : Even q := hqeven (by rw [hy]; norm_num)
  rw [hpq, Int.even_add_one] at hp
  exact hp hq

theorem qInt_mono {x y : ℝ} (h : x ≤ y) : qInt x ≤ qInt y := le_of_isQ (isQ_qInt x) (isQ_qInt y) h

/-- Settles O56. The order is kept because it is kept between any two nearest integers. -/
theorem roundingIsNearestHalfEven : Obligations.RoundingIsNearestHalfEven := by
  unfold Obligations.RoundingIsNearestHalfEven
  exact ⟨isQ_qInt, fun _ _ => qInt_mono⟩

/-! ## The threshold map (42 R149 to R152) -/

theorem threshMin_le_threshReal {c : Calibration ℝ} (h : c.threshMin ≤ c.threshMax) (raw : ℤ) :
    c.threshMin ≤ threshReal c raw :=
  le_min (le_max_right _ _) h

theorem threshReal_le_threshMax (c : Calibration ℝ) (raw : ℤ) : threshReal c raw ≤ c.threshMax :=
  min_le_right _ _

theorem qDefined_eq_true_iff (x : ℝ) : qDefined x = true ↔ -(2 ^ 31) ≤ qInt x ∧ qInt x ≤ 2 ^ 31 - 1 := by
  simp [qDefined]

/-- Where `Q` is defined its 32-bit word has not wrapped. -/
theorem toInt_qWord {x : ℝ} (h : -(2 ^ 31) ≤ qInt x ∧ qInt x ≤ 2 ^ 31 - 1) : (qWord x).toInt = qInt x := by
  obtain ⟨hlo, hhi⟩ := h
  rw [qWord, BitVec.toInt_ofInt]
  exact Int.bmod_eq_of_le (by omega) (by omega)

/-- The model reads the range of codes as integers, which changes neither their number nor their order. -/
theorem buildThreshRom_eq_map (c : Calibration ℝ) :
    buildThreshRom c = (List.range 256).map fun raw : ℕ => qWord (threshReal c raw) := by
  simp only [buildThreshRom, bind_pure_comp, List.map_eq_map, List.map_map, Function.comp_def]

/-- Settles O57. The clamp bounds the real threshold, `Q` keeps the order, and between two integers of 32 bits no word
wraps. -/
theorem thresholdMapStaysInItsRange : Obligations.ThresholdMapStaysInItsRange := by
  unfold Obligations.ThresholdMapStaysInItsRange
  intro c hle
  have hlo (raw : ℤ) : qInt c.threshMin ≤ qInt (threshReal c raw) := qInt_mono (threshMin_le_threshReal hle raw)
  have hhi (raw : ℤ) : qInt (threshReal c raw) ≤ qInt c.threshMax := qInt_mono (threshReal_le_threshMax c raw)
  refine ⟨fun raw => ⟨hlo raw, hhi raw⟩, fun hmin hmax => ⟨?length, fun q hq => ?word⟩⟩
  case length => rw [buildThreshRom_eq_map, List.length_map, List.length_range]
  case word =>
    rw [buildThreshRom_eq_map] at hq
    obtain ⟨raw, -, rfl⟩ := List.mem_map.mp hq
    obtain ⟨hbottom, -⟩ := (qDefined_eq_true_iff _).mp hmin
    obtain ⟨-, htop⟩ := (qDefined_eq_true_iff _).mp hmax
    have hword := toInt_qWord ⟨hbottom.trans (hlo raw), (hhi raw).trans htop⟩
    simp [inThreshRange, hword, hlo, hhi]

/-! ## The thermistor law (42 R141 to R144) -/

/-- With `FS = 255` both ends of the divider are invalid, whatever the other parameters are. -/
theorem code_inside_of_valid {c : Calibration ℝ} {raw : Nat} (hfs : c.fs = 255) (hraw : raw < 256)
    (hvalid : ¬ TempInvalid c raw) : 0 < raw ∧ raw < 255 := by
  have h0 : raw ≠ 0 := fun h => hvalid (h ▸ Scope.tempInvalid_zero c)
  have h255 : raw ≠ 255 := fun h => hvalid (.inl (by rw [h, hfs]; rfl))
  omega

/-- The ratio `raw / (255 − raw)` of the divider is positive inside its range, and grows with the code. -/
theorem ratio_pos {raw : Nat} (h0 : 0 < raw) (h : raw < 255) : (0 : ℝ) < raw / (255 - raw) := by
  have hlo : (0 : ℝ) < raw := by exact_mod_cast h0
  have hhi : (raw : ℝ) < 255 := by exact_mod_cast h
  exact div_pos hlo (by linarith)

theorem ratio_lt_ratio {a b : Nat} (hab : a < b) (hb : b < 255) : (a : ℝ) / (255 - a) < b / (255 - b) := by
  have hab' : (a : ℝ) < b := by exact_mod_cast hab
  have hb' : (b : ℝ) < 255 := by exact_mod_cast hb
  rw [div_lt_div_iff₀ (by linarith) (by linarith)]
  linarith

theorem calibration_wellFormed_pos {c : Calibration ℝ} (h : c.wellFormed = true) :
    0 < c.r0 ∧ 0 < c.rFixed ∧ 0 < c.vref := by
  simp only [Calibration.wellFormed, Bool.and_eq_true, decide_eq_true_eq] at h
  simp only [h, and_self]

/-- With `B > 0` the reciprocal temperature strictly increases with the code: the resistance does, and the logarithm. -/
theorem invT_lt_invT {c : Calibration ℝ} {a b : Nat} {ra rb ia ib : ℝ} (hc : c.wellFormed = true) (hfs : c.fs = 255)
    (hB : 0 < c.b) (ha : 0 < a) (hab : a < b) (hb : b < 255) (hbeta : IsBeta c a ra ia) (hbeta' : IsBeta c b rb ib) :
    ia < ib := by
  obtain ⟨hr0, hrFixed, hvref⟩ := calibration_wellFormed_pos hc
  obtain ⟨rfl, rfl⟩ := (Scope.isBeta_iff c a ra ia hvref.ne' hfs (hab.trans hb)).mp hbeta
  obtain ⟨rfl, rfl⟩ := (Scope.isBeta_iff c b rb ib hvref.ne' hfs hb).mp hbeta'
  have hpos := ratio_pos ha (hab.trans hb)
  have hlt := ratio_lt_ratio hab hb
  have hlog : Real.log (c.rFixed * (a / (255 - a)) / c.r0) < Real.log (c.rFixed * (b / (255 - b)) / c.r0) :=
    Real.log_lt_log (by positivity) (by gcongr)
  gcongr

/-- Settles O59. Valid codes have a positive reciprocal temperature, so its reciprocal reverses the order. -/
theorem thermistorLawDecreases : Obligations.ThermistorLawDecreases := by
  unfold Obligations.ThermistorLawDecreases
  intro c a b x y hc hfs hB hab hb hvalidA hvalidB hx hy
  obtain ⟨ha0, -⟩ := code_inside_of_valid hfs (hab.trans hb) hvalidA
  obtain ⟨-, hb255⟩ := code_inside_of_valid hfs hb hvalidB
  obtain ⟨ra, ia, _, hbetaA, rfl, rfl⟩ := hx
  obtain ⟨rb, ib, _, hbetaB, rfl, rfl⟩ := hy
  have hpos : 0 < ia := not_le.mp fun h => hvalidA (.inr ⟨ra, ia, hbetaA, .inr h⟩)
  have hlt : ia < ib := invT_lt_invT hc hfs hB ha0 hab hb255 hbetaA hbetaB
  have hinv : 1 / ib < 1 / ia := one_div_lt_one_div_of_lt hpos hlt
  linarith

/-- Between the ends of the divider the reference law gives a positive resistance, and, as its logarithm is at least −8,
a positive reciprocal temperature. -/
theorem refCalibration_isBeta_pos {raw : Nat} {r invT : ℝ} (h0 : 0 < raw) (h : raw < 255)
    (hbeta : IsBeta refCalibration raw r invT) : 0 < r ∧ 0 < invT := by
  obtain ⟨rfl, rfl⟩ := (Scope.isBeta_iff refCalibration raw r invT (by norm_num [refCalibration]) rfl h).mp hbeta
  have hratio := ratio_pos h0 h
  have hlog := Scope.neg_eight_le_log_ratio raw h0 h
  simp only [refCalibration]
  rw [mul_div_cancel_left₀ _ (by norm_num : (10000 : ℝ) ≠ 0)]
  constructor
  · positivity
  · norm_num
    linarith

/-- Settles O60. Code 0 has no resistance and code 255 saturates; every other code is inside the divider. -/
theorem referenceInvalidCodes : Obligations.ReferenceInvalidCodes := by
  unfold Obligations.ReferenceInvalidCodes
  intro raw hraw
  constructor
  · rintro (hsat | ⟨r, invT, hbeta, hneg⟩)
    · exact .inr (Int.ofNat_inj.mp hsat)
    · by_contra hends
      obtain ⟨hr, hinvT⟩ := refCalibration_isBeta_pos (by omega) (by omega) hbeta
      rcases hneg with hneg | hneg <;> linarith
  · rintro (rfl | rfl)
    · exact Scope.tempInvalid_zero _
    · exact .inl rfl

/-! ## The conversion operations (42 R148, R153, R155) -/

theorem tempRomAt_of_getElem? {c : Config} {raw : RawSample} {e : TempEntry} (h : c.tempRom[raw.toNat]? = some e) :
    tempRomAt c raw = e := by
  rw [tempRomAt, List.getD_eq_getElem?_getD, h, Option.getD_some]

theorem threshRomAt_of_getElem? {c : Config} {raw : RawSample} {q : Q1516} (h : c.threshRom[raw.toNat]? = some q) :
    threshRomAt c raw = q := by
  rw [threshRomAt, List.getD_eq_getElem?_getD, h, Option.getD_some]

section running
variable {s : State} (hrun : s.halted = false)
include hrun

theorem exec_convTemp_running :
    exec .convTemp s = .next { s with result := .temp (convTemp s.cfg s.rawT) } := by
  simp only [exec, execConvTemp, State.ctrlStep_running hrun]

theorem exec_convThresh_running :
    exec .convThresh s = .next { s with result := .thresh (convThresh s.cfg s.rawA) } := by
  simp only [exec, execConvThresh, State.ctrlStep_running hrun]

theorem exec_convLight_running :
    exec .convLight s = .next { s with result := .light (convLight s.cfg s.rawA) } := by
  simp only [exec, execConvLight, State.ctrlStep_running hrun]

end running

/-- Settles O35. Each operation delivers the value of its look-up, and the look-ups are in range. -/
theorem conversionsDeliverTheirValue : Obligations.ConversionsDeliverTheirValue := by
  unfold Obligations.ConversionsDeliverTheirValue
  intro s hrun
  refine ⟨fun e he => ?temp, fun q hq => ?thresh, fun hbelow => ?light, fun hcut => ?dark⟩
  case temp => rw [exec_convTemp_running hrun, convTemp, tempRomAt_of_getElem? he]
  case thresh => rw [exec_convThresh_running hrun, convThresh, threshRomAt_of_getElem? hq]
  case light => rw [exec_convLight_running hrun, convLight, if_pos hbelow]
  case dark => rw [exec_convLight_running hrun, convLight, if_neg (not_lt.mpr hcut)]

end Sys2Proof.Proofs.Conversion

/-! The tables of 43 for `REFCFG`: `THRESH_ROM` is the table built from the reference calibration (R171, 42 R152), and
`TEMP_ROM` is invalid at its two ends only and strictly decreases between them (R170, R172 item 1). -/

namespace Sys2Proof.Proofs.ConversionTables

open Sys2Proof

/-! ## `THRESH_ROM` (43 R171) -/

/-- The reference values are rational, so the table they build over the reals is the one that evaluates over the
rationals. -/
theorem refcfg_threshRomFollowsMap : threshRomFollowsMap refcfg (refCalibration : Calibration ℝ) = true := by
  have hrational : threshRomFollowsMap refcfg (refCalibration : Calibration ℚ) = true := by decide +kernel
  rw [← refCalibration_toReal, threshRomFollowsMap_toReal, hrational]

/-! ## `TEMP_ROM` (43 R170) -/

theorem refTempRom_length : refTempRom.length = 256 := by decide +kernel

theorem refTempRom_map_valid : refTempRom.map TempEntry.valid = refTempValid := by decide +kernel

theorem refTempRom_getD_valid (raw : Nat) : (refTempRom.getD raw ⟨true, 0⟩).valid = refTempValid.getD raw true := by
  rw [← refTempRom_map_valid]
  exact (List.getD_map refTempRom ⟨true, 0⟩ TempEntry.valid).symm

/-- The valid column is a run of 254 valid codes between two invalid ones. -/
theorem refTempValid_getD_eq_false_iff {raw : Nat} (hraw : raw < 256) :
    refTempValid.getD raw true = false ↔ raw = 0 ∨ raw = 255 := by
  have hlen : (List.replicate 254 true).length = 254 := List.length_replicate
  cases raw with
  | zero => exact iff_of_true rfl (.inl rfl)
  | succ n =>
    rw [refTempValid, List.getD_cons_succ]
    rcases Nat.lt_or_ge n 254 with hinside | hend
    · rw [List.getD_append _ _ _ _ (by rwa [hlen]), List.getD_replicate _ hinside]
      exact iff_of_false (by decide) (by omega)
    · obtain rfl : n = 254 := by omega
      rw [List.getD_append_right _ _ _ _ hlen.le, hlen]
      exact iff_of_true rfl (.inr rfl)

/-- The entries at codes 1 to 254, where 43 R170 gives a temperature. -/
def validTempEntries : List TempEntry := (refTempRom.drop 1).take 254

theorem validTempEntries_length : validTempEntries.length = 254 := by
  simp [validTempEntries, refTempRom_length]

theorem validTempEntries_getElem {i : Nat} (h : i < validTempEntries.length) :
    validTempEntries[i] = refTempRom.getD (i + 1) ⟨true, 0⟩ := by
  have hi : i + 1 < refTempRom.length := by
    rw [validTempEntries_length] at h
    rw [refTempRom_length]
    omega
  simp only [validTempEntries, List.getElem_take, List.getElem_drop, List.getD_eq_getElem _ _ hi, Nat.add_comm 1 i]

/-- Each entry holds a temperature below the one before it. -/
theorem validTempEntries_isChain : validTempEntries.IsChain fun e next => next.q.toInt < e.q.toInt := by
  decide +kernel

/-! ## The statement -/

/-- Settles O58. The threshold table is checked over the rationals, the valid column by its shape, and the order of the
data as a chain of neighbours. -/
theorem referenceTablesHaveTheirProperties : Obligations.ReferenceTablesHaveTheirProperties := by
  unfold Obligations.ReferenceTablesHaveTheirProperties
  refine ⟨refcfg_threshRomFollowsMap, refTempRom_length, fun raw hraw => ?valid, fun raw hlo hhi => ?decreasing⟩
  case valid => rw [refTempRom_getD_valid, refTempValid_getD_eq_false_iff hraw]
  case decreasing =>
    obtain ⟨i, rfl⟩ := Nat.exists_eq_add_of_le' hlo
    have hnext : i + 1 < validTempEntries.length := by rw [validTempEntries_length]; omega
    rw [← validTempEntries_getElem hnext, ← validTempEntries_getElem (Nat.lt_of_succ_lt hnext)]
    exact validTempEntries_isChain.getElem i hnext

end Sys2Proof.Proofs.ConversionTables

/-! The alarm of 44: what the commands `ARM`, `DISARM` and `TOGGLE` do to the latch (R181 to R183), that nothing else
writes it (R187) and a command step writes nothing else (R180, R186), and the decision `DECIDE` (R184). -/

namespace Sys2Proof.Proofs.Alarm

open Sys2Proof Sys2Proof.Machine

/-! ## The alarm latch and its commands (44 R181 to R183) -/

@[simp] theorem toggleAlarm_toggleAlarm (a : AlarmState) : toggleAlarm (toggleAlarm a) = a := by cases a <;> rfl

theorem toggleAlarm_eq_ite (a : AlarmState) : toggleAlarm a = if a = .armed then .disarmed else .armed := by
  cases a <;> rfl

@[simp] theorem writeAlarm_writeAlarm (s : State) (v w : AlarmState) : (s.writeAlarm v).writeAlarm w = s.writeAlarm w :=
  rfl

/-- Writing the value the latch holds is a no-op. -/
theorem writeAlarm_of_alarm_eq {s : State} {v : AlarmState} (h : s.alarm = v) : s.writeAlarm v = s := by
  subst h
  rfl

theorem exec_arm (s : State) : exec .arm s = .next (s.writeAlarm .armed) := rfl

theorem exec_disarm (s : State) : exec .disarm s = .next (s.writeAlarm .disarmed) := rfl

theorem exec_toggle (s : State) : exec .toggle s = .next (s.writeAlarm (toggleAlarm s.alarm)) := rfl

/-- Settles O13. -/
theorem armSetsAlarmOnly : Obligations.ArmSetsAlarmOnly := by
  unfold Obligations.ArmSetsAlarmOnly
  refine ⟨decode_cmd 0, fun s => ⟨exec_arm s, fun harmed => ?noop⟩⟩
  case noop => rw [exec_arm, writeAlarm_of_alarm_eq harmed]

/-- Settles O14. -/
theorem disarmClearsAlarmOnly : Obligations.DisarmClearsAlarmOnly := by
  unfold Obligations.DisarmClearsAlarmOnly
  refine ⟨decode_cmd 1, fun s => ⟨exec_disarm s, fun hdisarmed => ?noop⟩⟩
  case noop => rw [exec_disarm, writeAlarm_of_alarm_eq hdisarmed]

/-- Settles O15. Two inversions cancel, and a write of the latch replaces the one before it. -/
theorem toggleInvertsAlarmOnly : Obligations.ToggleInvertsAlarmOnly := by
  unfold Obligations.ToggleInvertsAlarmOnly
  refine ⟨decode_cmd 2, fun s => ?inverts, fun s t hs => ?twice, fun s t u hs ht => ?armToggle,
    fun s t u hs ht => ?toggleArm⟩
  case inverts => rw [exec_toggle, toggleAlarm_eq_ite, State.writeAlarm]
  case twice =>
    obtain rfl := Host.Outcome.next.inj ((exec_toggle s).symm.trans hs)
    rw [exec_toggle, State.writeAlarm_alarm, toggleAlarm_toggleAlarm, writeAlarm_writeAlarm, writeAlarm_of_alarm_eq rfl]
  case armToggle =>
    obtain rfl := Host.Outcome.next.inj ((exec_arm s).symm.trans hs)
    obtain rfl := Host.Outcome.next.inj ((exec_toggle _).symm.trans ht)
    rfl
  case toggleArm =>
    obtain rfl := Host.Outcome.next.inj ((exec_arm t).symm.trans ht)
    rfl

/-! ## The operations of `CTRL` leave the latches (44 R187, 45 R200) -/

theorem sameLatches_refl (s : State) : SameLatches s s := ⟨rfl, rfl⟩

theorem sameLatches_trans {s t u : State} (h : SameLatches s t) (h' : SameLatches t u) : SameLatches s u :=
  ⟨h'.1.trans h.1, h'.2.trans h.2⟩

theorem ctrlStep_sameLatches {s t : State} {f : State → Host.Outcome State Fault Refusal}
    (hf : f s = .next t → SameLatches s t) (h : s.ctrlStep f = .next t) : SameLatches s t := by
  rcases State.ctrlStep_next h with ⟨-, rfl⟩ | ⟨-, hbody⟩
  · exact sameLatches_refl t
  · exact hf hbody

/-- A port operation leaves the latches, on either answer, if what goes on after it does. -/
theorem portOp_sameLatches {s : State} {op : PortOp} {k : Level → State → State}
    (hk : ∀ b t, SameLatches t (k b t)) : SameLatches s (s.portOp op k) := by
  rcases State.portOp_cases s op k with ⟨b, -, hok⟩ | ⟨-, hfault⟩
  · rw [hok]
    exact hk b (s.answered op (.ok b))
  · rw [hfault]
    exact ⟨rfl, rfl⟩

theorem microStep_sameLatches {s : State} {op : PortOp} {k : State → State} (hk : ∀ t, SameLatches t (k t)) :
    SameLatches s (s.microStep op k) :=
  portOp_sameLatches fun b t => sameLatches_trans (t := t.microAcc op b) (by simp [SameLatches]) (hk _)

theorem readPhase_sameLatches {s t : State} {finish : State → State} (hfinish : ∀ t, SameLatches t (finish t))
    (h : s.readPhase finish = .next t) : SameLatches s t := by
  rcases State.readPhase_spec s finish with ⟨-, hstop⟩ | ⟨op, -, -, hnext⟩
  · rw [hstop] at h
    cases h
  · obtain rfl := Host.Outcome.next.inj (hnext.symm.trans h)
    refine microStep_sameLatches fun t => ?_
    split
    · exact ⟨rfl, rfl⟩
    · exact hfinish t

theorem execAdcRead_sameLatches {s t : State} {ch : Nat} (hx : execAdcRead ch s = .next t) : SameLatches s t := by
  refine ctrlStep_sameLatches (fun h => ?_) hx
  cases hch : channelOperand ch with
  | none =>
    simp only [hch] at h
    obtain rfl := Host.Outcome.next.inj h
    exact ⟨rfl, rfl⟩
  | some c =>
    simp only [hch] at h
    obtain rfl := Host.Outcome.next.inj h
    obtain ⟨-, -, -, -, -, -, -, -, -, -, halarm, hstop, -⟩ :=
      State.runTransaction_frame (adcProgram c) { s with ch := c, upc := 0 }
    exact ⟨halarm, hstop⟩

theorem execShutdown_sameLatches {s t : State} (hx : execShutdown s = .next t) : SameLatches s t := by
  refine ctrlStep_sameLatches (fun h => ?_) hx
  cases hop : shutdownProgram[s.upc.toNat]? with
  | none =>
    simp only [hop] at h
    cases h
  | some op =>
    simp only [hop] at h
    obtain rfl := Host.Outcome.next.inj h
    refine portOp_sameLatches fun b t => ?_
    split <;> exact ⟨rfl, rfl⟩

/-- No operation but the four commands writes a latch. -/
theorem exec_sameLatches {i : Instr} {s t : State} (hi : isCommand i = false) (hx : exec i s = .next t) :
    SameLatches s t := by
  cases i with
  | arm | disarm | toggle | stop => cases hi
  | cycleStart =>
    obtain rfl := Host.Outcome.next.inj hx
    simp [SameLatches]
  | convTemp | convThresh | convLight | decide | eval | publish =>
    simp only [exec, execConvTemp, execConvThresh, execConvLight, execDecide, execEval, execPublish] at hx
    refine ctrlStep_sameLatches (fun h => ?_) hx
    obtain rfl := Host.Outcome.next.inj h
    simp [SameLatches]
  | setLine | readLine | drive =>
    simp only [exec, execSetLine, execReadLine, execDrive] at hx
    refine ctrlStep_sameLatches (fun h => ?_) hx
    obtain rfl := Host.Outcome.next.inj h
    exact portOp_sameLatches fun b t => by simp [SameLatches]
  | readT | readA =>
    simp only [exec, execReadT, execReadA] at hx
    refine ctrlStep_sameLatches (readPhase_sameLatches ?_) hx
    exact fun t => ⟨rfl, rfl⟩
  | adcRead ch => exact execAdcRead_sameLatches hx
  | shutdown => exact execShutdown_sameLatches hx

/-- Settles O17. The rows of the commands are their equations; every other row is the frame of the latches. -/
theorem alarmTransitionTable : Obligations.AlarmTransitionTable := by
  unfold Obligations.AlarmTransitionTable
  intro i s t hx
  cases hi : isCommand i with
  | false =>
    have hkeep : t.alarm = s.alarm := (exec_sameLatches hi hx).1
    cases i with
    | arm | disarm | toggle | stop => cases hi
    | _ => exact hkeep
  | true =>
    cases i with
    | arm | disarm | stop =>
      obtain rfl := Host.Outcome.next.inj hx
      rfl
    | toggle =>
      obtain rfl := Host.Outcome.next.inj ((exec_toggle s).symm.trans hx)
      exact toggleAlarm_eq_ite s.alarm
    | _ => cases hi

/-! ## A step of `CMD` (44 R180, R186) -/

/-- What each word of `CMD` writes (30 R87): words 0, 1 and 2 the alarm latch, word 3 the stop latch. -/
theorem exec_decodeCmd_eq (w : BitVec 2) (s : State) :
    exec (decodeCmd w) s = .next { s with
      alarm := if w = 0 then .armed else if w = 1 then .disarmed else
        if w = 2 then (if s.alarm = .armed then .disarmed else .armed) else s.alarm
      stopReq := s.stopReq || w = 3 } := by
  have hw : w = 0 ∨ w = 1 ∨ w = 2 ∨ w = 3 := by revert w; decide
  rcases hw with rfl | rfl | rfl | rfl
  · simp [decodeCmd, exec_arm, State.writeAlarm]
  · simp [decodeCmd, exec_disarm, State.writeAlarm]
  · simp [decodeCmd, exec_toggle, State.writeAlarm, toggleAlarm_eq_ite]
  · simp [decodeCmd, exec, execStop]

/-- A step that uses up its event and writes the latches leaves the rest of the machine. -/
theorem writeLatches_frame (s : State) (a : AlarmState) (r : Bool) {t : State}
    (ht : t = { s.consumeEvent with alarm := a, stopReq := r }) :
    SamePosition s t ∧ SameSamples s t ∧ SameReading s t ∧ SameStatus s t ∧ SamePort s t ∧ SameOutside s t ∧
      t.snap = s.snap ∧ t.result = s.result := by
  subst ht
  exact ⟨⟨rfl, rfl⟩, ⟨rfl, rfl, rfl, rfl⟩, ⟨rfl, rfl, rfl, rfl, rfl, rfl⟩, ⟨rfl, rfl⟩,
    ⟨rfl, fun _ => rfl, State.answerAt_consumeEvent s⟩, ⟨rfl, rfl⟩, rfl, rfl⟩

/-- Settles O18. The step runs the command its word decodes to, whatever the phase. -/
theorem commandsTouchOnlyTheLatches : Obligations.CommandsTouchOnlyTheLatches := by
  unfold Obligations.CommandsTouchOnlyTheLatches
  intro s w he
  obtain ⟨-, hstep⟩ := Encoding.step_of_cmd he
  exact ⟨_, hstep.trans (exec_decodeCmd_eq w s.consumeEvent), rfl, rfl, writeLatches_frame s _ _ rfl⟩

/-! ## The decision (44 R184) -/

theorem alarmBit_eq_true_iff (a : AlarmState) : alarmBit a = true ↔ a = .armed := by cases a <;> decide

theorem greaterSigned_eq_true_iff (a b : Q1516) : greaterSigned a b = true ↔ b.toInt < a.toInt :=
  BitVec.slt_iff_toInt_lt

theorem decideBuzzer_eq_on_iff (a : AlarmState) (valid : Bool) (temp thresh : Q1516) :
    decideBuzzer a valid temp thresh = .on ↔ a = .armed ∧ valid = true ∧ thresh.toInt < temp.toInt := by
  simp [decideBuzzer, alarmBit_eq_true_iff, greaterSigned_eq_true_iff, and_assoc]

theorem decideStep_buzz_eq_on_iff (s : State) :
    s.decideStep.buzz = .on ↔ s.alarmSeen = .armed ∧ s.tempValid = true ∧ s.thresh.toInt < s.temp.toInt :=
  decideBuzzer_eq_on_iff _ _ _ _

theorem exec_decide_running {s : State} (hrun : s.halted = false) : exec .decide s = .next s.decideStep := by
  simp only [exec, execDecide, State.ctrlStep_running hrun]

/-- Settles O36. `EVAL` decides after its own update, and the entry into `DRIVE` after it writes the position alone. -/
theorem decideIsStrictAndSigned : Obligations.DecideIsStrictAndSigned := by
  unfold Obligations.DecideIsStrictAndSigned
  refine ⟨rfl, rfl, fun s hrun => ?decide, fun s hrun => ?eval⟩
  case decide => exact ⟨_, exec_decide_running hrun, rfl, decideStep_buzz_eq_on_iff s⟩
  case eval =>
    have halarm : s.evalConvert.evalLight.evalSeeAlarm.alarmSeen = s.alarm := by simp
    exact ⟨_, MachineState.exec_eval_running hrun, halarm, decideStep_buzz_eq_on_iff _⟩

end Sys2Proof.Proofs.Alarm

/-! The sampling loop of 45: the wait in `IDLE` and the start of a cycle (R190, R191, R201), the read phases (R192 to
R194), `EVAL` (R195, R196), `DRIVE` and `PUBLISH` (R198, R199), the stop and the shutdown (R200, R202, R203), the whole
fault-free cycle (R192, R206), and what always holds of the snapshot and of the buzzer line (R204, R205). -/

namespace Sys2Proof.Proofs.SamplingLoop

open Sys2Proof Sys2Proof.Machine

/-! ## The snapshot agrees with itself (45 R204) -/

theorem buzzerBit_eq_true_iff (b : BuzzerOutput) : buzzerBit b = true ↔ b = .on := by cases b <;> decide

/-- A snapshot taken while `BUZZ` is the decision of the registers is consistent. -/
theorem snapConsistent_snapshot {s : State} (h : s.buzz = decideBuzzer s.alarmSeen s.tempValid s.temp s.thresh) :
    snapConsistent s.snapshot := by
  have hdecision : buzzerBit s.buzz = true ↔
      alarmBit s.alarmSeen = true ∧ s.tempValid = true ∧ s.thresh.toInt < s.temp.toInt := by
    rw [buzzerBit_eq_true_iff, h, Alarm.decideBuzzer_eq_on_iff, Alarm.alarmBit_eq_true_iff]
  cases hvalid : s.tempValid <;> simp [snapConsistent, State.snapshot, hdecision, hvalid]

/-- Outside `DRIVE` and `PUBLISH` only the snapshot matters. -/
theorem snapLegal_of_phase {s : State} (hsnap : snapConsistent s.snap) (hdrive : s.phase ≠ .drive)
    (hpublish : s.phase ≠ .publish) : SnapLegal s :=
  ⟨hsnap, fun hp => absurd hp (not_or.mpr ⟨hdrive, hpublish⟩)⟩

/-- `EVAL` decides, `DRIVE` keeps the decision and its operands, and `PUBLISH` copies them together. -/
theorem snapLegal_of_ctrlEffect {s t : State} (h : MachineState.CtrlEffect s t) (hs : SnapLegal s) : SnapLegal t := by
  obtain ⟨hsnap, hbuzz⟩ := hs
  cases h with
  | eval => exact ⟨by simpa using hsnap, fun _ => rfl⟩
  | drive b hp => exact ⟨hsnap, fun _ => hbuzz (.inl hp)⟩
  | publish hp => exact snapLegal_of_phase (snapConsistent_snapshot (hbuzz (.inr hp))) nofun nofun
  | readRow op b hp =>
    rcases hp with hp | hp <;> exact snapLegal_of_phase (by simpa using hsnap) (by simp [hp]) (by simp [hp])
  | shutdownRow op b hp => exact snapLegal_of_phase hsnap (by simp [hp]) (by simp [hp])
  | _ => exact snapLegal_of_phase (by simpa using hsnap) (by simp) (by simp)

/-- Settles O52. The decision of `EVAL` stands until `PUBLISH` packs it with its own operands. -/
theorem stepKeepsTheSnapshotConsistent : Obligations.StepKeepsTheSnapshotConsistent := by
  unfold Obligations.StepKeepsTheSnapshotConsistent
  intro s t
  exact MachineState.step_keeps (fun _ _ _ _ _ => id) (fun s _ => MachineState.snapLegal_resetWith s.cfg)
    snapLegal_of_ctrlEffect

/-! ## Waiting and leaving `IDLE` (45 R190, R191, R201) -/

theorem step_ctrl_waiting {s : State} (he : s.eventAt 0 = .ctrl) (hi : s.ctrlInstr = none) :
    step s = .next s.consumeEvent := by
  simp only [step_spec, he, hi]

/-- Outside `IDLE` the timer is masked (60 R231). -/
theorem step_tick_masked {s : State} (he : s.eventAt 0 = .tick) (hp : s.phase ≠ .idle) :
    step s = .next s.consumeEvent := by
  simp only [step_spec, he, hp, if_false]

/-- A step that only uses up its event writes nothing of the machine. -/
theorem consumeEvent_frame (s : State) :
    SamePosition s s.consumeEvent ∧ SameSamples s s.consumeEvent ∧ SameReading s s.consumeEvent ∧
      SameLatches s s.consumeEvent ∧ SameStatus s s.consumeEvent ∧ SamePort s s.consumeEvent ∧
      SameOutside s s.consumeEvent ∧ s.consumeEvent.snap = s.snap ∧ s.consumeEvent.result = s.result := by
  obtain ⟨hposition, hsamples, hreading, hstatus, hport, houtside, hsnap, hresult⟩ :=
    Alarm.writeLatches_frame s s.alarm s.stopReq rfl
  exact ⟨hposition, hsamples, hreading, ⟨rfl, rfl⟩, hstatus, hport, houtside, hsnap, hresult⟩

/-- Settles O8. In both cases no agent has an enabled step, and the event alone is used up. -/
theorem idleWaitsForTheTimer : Obligations.IdleWaitsForTheTimer := by
  unfold Obligations.IdleWaitsForTheTimer
  intro s hwait
  have hstep : step s = .next s.consumeEvent := by
    rcases hwait with ⟨he, hp, hstop⟩ | ⟨he, hp⟩
    · exact step_ctrl_waiting he (by simp [State.ctrlInstr, hp, hstop])
    · exact step_tick_masked he hp
  obtain ⟨hposition, hsamples, hreading, hlatches, hstatus, hport, houtside, hsnap, hresult⟩ := consumeEvent_frame s
  exact ⟨_, hstep, hposition, hsamples, hreading, hlatches, hstatus, hport, houtside, hsnap, hresult,
    State.eventAt_consumeEvent s⟩

theorem exec_cycleStart (s : State) : exec .cycleStart s = .next s.leaveIdle := rfl

theorem leaveIdle_stop {s : State} (hp : s.phase = .idle) (hstop : s.stopReq = true) :
    s.leaveIdle = s.goto .shutdown := by
  rw [State.leaveIdle, if_pos hp, if_pos hstop]

theorem leaveIdle_cycle {s : State} (hp : s.phase = .idle) (hstop : s.stopReq = false) :
    s.leaveIdle = { s.goto .readT with ch := s.cfg.tempChannel } := by
  rw [State.leaveIdle, if_pos hp, if_neg (by simp [hstop])]

theorem leaveIdle_elsewhere {s : State} (hp : s.phase ≠ .idle) : s.leaveIdle = s := by
  rw [State.leaveIdle, if_neg hp]

/-- Settles O37. -/
theorem cycleStartLoadsTheThermistorChannel : Obligations.CycleStartLoadsTheThermistorChannel := by
  unfold Obligations.CycleStartLoadsTheThermistorChannel
  refine fun s => ⟨fun hp hstop => ?cycle, fun hp hstop => ?shutdown, fun hp => ?elsewhere⟩
  case cycle => rw [exec_cycleStart, leaveIdle_cycle hp hstop, State.goto]
  case shutdown => rw [exec_cycleStart, leaveIdle_stop hp hstop, State.goto]
  case elsewhere => rw [exec_cycleStart, leaveIdle_elsewhere hp]

/-- Settles O38. The turn of `CTRL` and the permission of `TIMER` both run `CYCLE_START`, which looks at the stop
first. -/
theorem stopWinsInIdle : Obligations.StopWinsInIdle := by
  unfold Obligations.StopWinsInIdle
  intro s hp hstop hevent
  have hstep : step s = exec .cycleStart s.consumeEvent := by
    rcases hevent with he | he
    · exact Encoding.step_ctrl he (by rw [State.ctrlInstr, if_pos hp, if_pos hstop])
    · exact Encoding.step_tick_idle he hp
  rw [exec_cycleStart, leaveIdle_stop (s := s.consumeEvent) hp hstop] at hstep
  obtain ⟨-, hsamples, hreading, hlatches, hstatus, hport, houtside, hsnap, -⟩ := consumeEvent_frame s
  exact ⟨_, hstep, rfl, rfl, hsamples, hreading, hlatches, hstatus, hport, houtside, hsnap⟩

/-! ## `STOP` (45 R200) -/

theorem exec_stop (s : State) : exec .stop s = .next { s with stopReq := true } := rfl

/-- Settles O16. No operation of `CTRL` writes the latch, and of the commands only `STOP`, which sets it. -/
theorem stopSetsStopReqOnly : Obligations.StopSetsStopReqOnly := by
  unfold Obligations.StopSetsStopReqOnly
  refine ⟨decode_cmd 3, fun s => ⟨exec_stop s, fun hstop => ?again⟩, fun i s t hstop hx => ?kept⟩
  case again => rw [exec_stop, ← hstop]
  case kept =>
    cases hi : isCommand i with
    | false =>
      obtain ⟨-, hkeep⟩ := Alarm.exec_sameLatches hi hx
      exact hkeep.trans hstop
    | true =>
      cases i with
      | arm | disarm | toggle =>
        obtain rfl := Host.Outcome.next.inj hx
        exact hstop
      | stop =>
        obtain rfl := Host.Outcome.next.inj ((exec_stop s).symm.trans hx)
        rfl
      | _ => cases hi

/-! ## The last micro-step of a read phase (45 R193, R194) -/

/-- Row 36 of 41 R123 releases chip-select and leaves `ACC` for the phase to deliver. -/
theorem readPhase_last {s : State} {b : Level} (hu : s.upc = 36) (hok : s.answerAt 0 = .ok b)
    (finish : State → State) :
    s.readPhase finish = .next (finish (s.answered (.set .cs true) (.ok b))) := by
  have hrow : (adcProgram s.ch)[s.upc.toNat]? = some (.set .cs true) := by
    rw [hu]
    cases s.ch <;> rfl
  have hacc : (s.answered (.set .cs true) (.ok b)).microAcc (.set .cs true) b = s.answered (.set .cs true) (.ok b) :=
    if_neg (by simp [hu])
  rcases State.readPhase_spec s finish with ⟨hbeyond, -⟩ | ⟨op, -, hop, hnext⟩
  · simp [hu] at hbeyond
  · obtain rfl := Option.some.inj (hrow.symm.trans hop)
    rw [hnext, State.microStep_ok hok, hacc, if_neg (by simp [hu, maxUpc])]

/-- Settles O31. What remains of the phase is the record that delivers `ACC`. -/
theorem readPhasesDeliverTheirSample : Obligations.ReadPhasesDeliverTheirSample := by
  unfold Obligations.ReadPhasesDeliverTheirSample
  intro s b hrun hu hok
  have hport {t : State} (htrace : t.trace = (s.answered (.set .cs true) (.ok b)).trace)
      (hlines : t.lines = (s.answered (.set .cs true) (.ok b)).lines)
      (henv : t.env = (s.answered (.set .cs true) (.ok b)).env) : OnePortOp s t (.set .cs true) (.ok b) :=
    PortOps.onePortOp_of_answered htrace hlines henv
  constructor
  · exact ⟨_, (MachineState.exec_readT_running hrun).trans (readPhase_last hu hok _), hport rfl rfl rfl, rfl, rfl, rfl,
      rfl, rfl, rfl, ⟨rfl, rfl, rfl, rfl, rfl, rfl⟩, ⟨rfl, rfl⟩, ⟨rfl, rfl⟩, ⟨rfl, rfl⟩, rfl, rfl⟩
  · exact ⟨_, (MachineState.exec_readA_running hrun).trans (readPhase_last hu hok _), hport rfl rfl rfl, rfl, rfl, rfl,
      rfl, rfl, rfl, ⟨rfl, rfl, rfl, rfl, rfl, rfl⟩, ⟨rfl, rfl⟩, ⟨rfl, rfl⟩, ⟨rfl, rfl⟩, rfl, rfl⟩

/-! ## `EVAL` (45 R195, R196) -/

theorem evalConvert_valid {s : State} {q h : Q1516} (hentry : s.cfg.tempRom[s.rawT.toNat]? = some ⟨true, q⟩)
    (hthresh : s.cfg.threshRom[s.rawA.toNat]? = some h) :
    s.evalConvert = { s with temp := q, tempValid := true, thresh := h } := by
  simp [State.evalConvert, convTemp, convThresh, Conversion.tempRomAt_of_getElem? hentry,
    Conversion.threshRomAt_of_getElem? hthresh]

theorem evalConvert_invalid {s : State} {q : Q1516} (hentry : s.cfg.tempRom[s.rawT.toNat]? = some ⟨false, q⟩) :
    s.evalConvert = s := by
  simp [State.evalConvert, convTemp, Conversion.tempRomAt_of_getElem? hentry]

theorem convLight_eq_light_iff (c : Config) (raw : RawSample) : convLight c raw = .light ↔ raw.toNat < c.lightCut := by
  simp [convLight]

/-- What `EVAL` does after its conversion has left `r`, and what it leaves unchanged. -/
theorem exec_eval_spec {s r : State} (hrun : s.halted = false) (hconvert : s.evalConvert = r) :
    ∃ t, exec .eval s = .next t ∧ t.temp = r.temp ∧ t.tempValid = r.tempValid ∧ t.thresh = r.thresh ∧
      (t.light = .light ↔ s.rawA.toNat < s.cfg.lightCut) ∧ t.alarmSeen = s.alarm ∧
      (t.buzz = .on ↔ s.alarm = .armed ∧ r.tempValid = true ∧ r.thresh.toInt < r.temp.toInt) ∧
      t.phase = .drive ∧ t.upc = 0 ∧
      SameSamples s t ∧ SameLatches s t ∧ SameStatus s t ∧ SamePort s t ∧ SameOutside s t ∧ t.snap = s.snap ∧
      t.result = s.result := by
  subst hconvert
  have henv : (s.evalConvert.evalLight.evalSeeAlarm.decideStep.goto .drive).env = s.env := by simp
  refine ⟨_, MachineState.exec_eval_running hrun, by simp, by simp, by simp, ?light, by simp, ?buzz, rfl, rfl, ?frame⟩
  case light => simp [convLight_eq_light_iff]
  case buzz =>
    refine (Alarm.decideStep_buzz_eq_on_iff _).trans ?_
    simp
  case frame => simp [SameSamples, SameLatches, SameStatus, SamePort, SameOutside, State.answerAt_congr henv]

/-- Settles O39. -/
theorem evalStoresAValidReading : Obligations.EvalStoresAValidReading := by
  unfold Obligations.EvalStoresAValidReading
  intro s q h hrun hentry hthresh
  simpa using exec_eval_spec hrun (evalConvert_valid hentry hthresh)

/-- Settles O40. Without a valid temperature the first part of `EVAL` leaves the machine as it is. -/
theorem evalKeepsTheReadingOnConversionFault : Obligations.EvalKeepsTheReadingOnConversionFault := by
  unfold Obligations.EvalKeepsTheReadingOnConversionFault
  intro s q hrun hentry
  exact exec_eval_spec hrun (evalConvert_invalid hentry)

/-! ## `DRIVE` and `PUBLISH` (45 R198, R199) -/

theorem exec_drive_ok {s : State} {b : Level} (hrun : s.halted = false) (hok : s.answerAt 0 = .ok b) :
    exec .drive s = .next ((s.answered (.set .buz (buzzerBit s.buzz)) (.ok b)).goto .publish) := by
  rw [MachineState.exec_drive_running hrun, State.portOp_ok hok]

/-- Settles O41. -/
theorem driveWritesTheBuzzerLine : Obligations.DriveWritesTheBuzzerLine := by
  unfold Obligations.DriveWritesTheBuzzerLine
  intro s b hrun hok
  refine ⟨_, buzzerBit s.buzz, exec_drive_ok hrun hok, fun hon => ?on, fun hoff => ?off,
    PortOps.onePortOp_of_answered rfl rfl rfl, rfl, rfl, ⟨rfl, rfl, rfl, rfl⟩, ⟨rfl, rfl, rfl, rfl, rfl, rfl⟩,
    ⟨rfl, rfl⟩, ⟨rfl, rfl⟩, ⟨rfl, rfl⟩, rfl, rfl⟩
  case on => rw [hon]; decide
  case off => rw [hoff]; decide

/-- The fields of `SNAP` read back as `PUBLISH` packed them (10 R36). -/
theorem snapshot_fields (s : State) :
    snapLight s.snapshot = lightBit s.light ∧ snapBuzzerOn s.snapshot = buzzerBit s.buzz ∧
      snapAlarmState s.snapshot = alarmBit s.alarmSeen ∧ snapTempValid s.snapshot = s.tempValid ∧
      snapTemperature s.snapshot = (if s.tempValid then s.temp else 0) ∧ snapThreshold s.snapshot = s.thresh :=
  ⟨snapLight_packSnap .., snapBuzzerOn_packSnap .., snapAlarmState_packSnap .., snapTempValid_packSnap ..,
    snapTemperature_packSnap .., snapThreshold_packSnap ..⟩

/-- Settles O42. -/
theorem publishRewritesTheSnapshot : Obligations.PublishRewritesTheSnapshot := by
  unfold Obligations.PublishRewritesTheSnapshot
  intro s hrun
  exact ⟨_, MachineState.exec_publish_running hrun, rfl, snapshot_fields s⟩

/-! ## `SHUTDOWN` (45 R202) -/

theorem exec_shutdown_ok {s : State} {b : Level} {op : PortOp} (hrun : s.halted = false)
    (hop : shutdownProgram[s.upc.toNat]? = some op) (hok : s.answerAt 0 = .ok b) :
    exec .shutdown s = .next
      (if s.upc.toNat < 3 then (s.answered op (.ok b)).nextMicro else (s.answered op (.ok b)).enterStopped) := by
  simp only [exec, execShutdown, State.ctrlStep_running hrun, hop, State.portOp_ok hok]
  rfl

theorem map_popWord_shutdownProgram : shutdownProgram.map popWord = [0x08, 0x07, 0x00, 0x02] := rfl

/-- Settles O43. -/
theorem shutdownParksTheLines : Obligations.ShutdownParksTheLines := by
  unfold Obligations.ShutdownParksTheLines
  intro s b hrun hu hok
  have hlen : s.upc.toNat < shutdownProgram.length := by
    rw [shutdownProgram_length]
    omega
  have hop := List.getElem?_eq_getElem hlen
  have hword : ([0x08, 0x07, 0x00, 0x02] : List (BitVec 5))[s.upc.toNat]? =
      some (popWord shutdownProgram[s.upc.toNat]) := by
    rw [← map_popWord_shutdownProgram, List.getElem?_map, hop]
    rfl
  have hnext := exec_shutdown_ok hrun hop hok
  by_cases hlast : s.upc.toNat < 3
  · rw [if_pos hlast] at hnext
    exact ⟨_, _, hnext, hword, PortOps.onePortOp_of_answered rfl rfl rfl, fun _ => ⟨rfl, rfl, rfl⟩,
      fun h => by omega, rfl, ⟨rfl, rfl, rfl, rfl⟩, ⟨rfl, rfl, rfl, rfl, rfl, rfl⟩, ⟨rfl, rfl⟩, ⟨rfl, rfl⟩, rfl, rfl⟩
  · rw [if_neg hlast] at hnext
    refine ⟨_, _, hnext, hword, PortOps.onePortOp_of_answered rfl rfl rfl, fun h => absurd h hlast, fun _ => ?stopped,
      rfl, ⟨rfl, rfl, rfl, rfl⟩, ⟨rfl, rfl, rfl, rfl, rfl, rfl⟩, ⟨rfl, rfl⟩, ⟨rfl, rfl⟩, rfl, rfl⟩
    case stopped => simp [statusWithRun, runCode]

/-! ## The terminal phases (45 R203, 60 R226, R230) -/

/-- Neither a turn of `CTRL` nor a permission of `TIMER` finds an enabled step in a terminal phase. -/
theorem step_terminal_waiting {s : State} (hp : s.phase = .stopped ∨ s.phase = .faulted)
    (he : s.eventAt 0 = .ctrl ∨ s.eventAt 0 = .tick) : step s = .next s.consumeEvent := by
  have hidle : s.phase ≠ .idle := by rcases hp with hp | hp <;> simp [hp]
  have hnone : phaseInstr s.phase = none := by rcases hp with hp | hp <;> rw [hp] <;> rfl
  rcases he with he | he
  · exact step_ctrl_waiting he (by rw [State.ctrlInstr, if_neg hidle, hnone])
  · exact step_tick_masked he hidle

theorem exec_terminal {i : Instr} {s : State} (hp : s.phase = .stopped ∨ s.phase = .faulted)
    (hi : isCommand i = false) : exec i s = .next s := by
  have hhalted := (State.halted_eq_true s).mpr hp
  cases i with
  | arm | disarm | toggle | stop => cases hi
  | cycleStart => rw [exec_cycleStart, leaveIdle_elsewhere (by rcases hp with hp | hp <;> simp [hp])]
  | _ =>
    simp only [exec, execSetLine, execReadLine, execAdcRead, execConvTemp, execConvThresh, execConvLight, execDecide,
      execReadT, execReadA, execEval, execDrive, execPublish, execShutdown, State.ctrlStep_halted hhalted]

/-- Settles O46. Only `CMD` and `VIEW` have a step that is not a reset, and each writes its own registers. -/
theorem terminalPhasesAreLeftByResetOnly : Obligations.TerminalPhasesAreLeftByResetOnly := by
  unfold Obligations.TerminalPhasesAreLeftByResetOnly
  refine ⟨fun s hp hreset => ?step, fun i s => exec_terminal⟩
  have hwaiting (he : s.eventAt 0 = .ctrl ∨ s.eventAt 0 = .tick) := step_terminal_waiting hp he
  have hview (v : ViewReads) (h : step s = .next { s.consumeEvent with view := v }) :
      ∃ t, step s = .next t ∧ SamePosition s t ∧ SameStatus s t ∧ SamePort s t ∧ SameSamples s t ∧ SameReading s t ∧
        t.snap = s.snap ∧ t.cfg = s.cfg ∧ ((∀ w, s.eventAt 0 ≠ .cmd w) → SameLatches s t) := by
    obtain ⟨hposition, hsamples, hreading, hlatches, hstatus, hport, hcfg, hsnap⟩ := Memory.recordView_frame s v rfl
    exact ⟨_, h, hposition, hstatus, hport, hsamples, hreading, hsnap, hcfg, fun _ => hlatches⟩
  cases he : s.eventAt 0 with
  | reset => exact absurd he hreset
  | ctrl => exact he ▸ hview s.view (hwaiting (.inl he))
  | tick => exact he ▸ hview s.view (hwaiting (.inr he))
  | viewSnap => exact he ▸ hview _ (Memory.step_viewSnap he)
  | viewStatus => exact he ▸ hview _ (Memory.step_viewStatus he)
  | cmd w =>
    obtain ⟨t, hstep, -, -, hposition, hsamples, hreading, hstatus, hport, ⟨hcfg, -⟩, hsnap, -⟩ :=
      Alarm.commandsTouchOnlyTheLatches s w he
    exact ⟨t, hstep, hposition, hstatus, hport, hsamples, hreading, hsnap, hcfg, fun h => absurd rfl (h w)⟩

/-! ## The buzzer line (45 R205) -/

theorem portOp_lines (s : State) (op : PortOp) {k : Level → State → State} (hk : ∀ b t, (k b t).lines = t.lines) :
    ∃ a, (s.portOp op k).lines = s.lines.after op a := by
  rcases State.portOp_cases s op k with ⟨b, -, hok⟩ | ⟨-, hfault⟩
  · exact ⟨.ok b, by rw [hok, hk, State.answered_lines]⟩
  · exact ⟨.ioFault, by rw [hfault, State.enterFault_lines, State.answered_lines]⟩

theorem readPhase_lines {s t : State} {finish : State → State} (hfinish : ∀ t, (finish t).lines = t.lines)
    (h : s.readPhase finish = .next t) :
    ∃ op, (adcProgram s.ch)[s.upc.toNat]? = some op ∧ ∃ a, t.lines = s.lines.after op a := by
  rcases State.readPhase_spec s finish with ⟨-, hstop⟩ | ⟨op, -, hop, hnext⟩
  · rw [hstop] at h
    cases h
  · obtain rfl := Host.Outcome.next.inj (hnext.symm.trans h)
    exact ⟨op, hop, portOp_lines s op fun b t => by dsimp only; split <;> simp [hfinish]⟩

theorem exec_shutdown_lines {s t : State} (hrun : s.halted = false) (hx : exec .shutdown s = .next t) :
    ∃ op, shutdownProgram[s.upc.toNat]? = some op ∧ ∃ a, t.lines = s.lines.after op a := by
  simp only [exec, execShutdown, State.ctrlStep_running hrun] at hx
  cases hop : shutdownProgram[s.upc.toNat]? with
  | none =>
    simp only [hop] at hx
    cases hx
  | some op =>
    simp only [hop] at hx
    obtain rfl := Host.Outcome.next.inj hx
    exact ⟨op, rfl, portOp_lines s op fun _ t => by split <;> rfl⟩

/-- The operation of a phase moves the lines by its one port operation at most. -/
theorem lines_of_exec {s t : State} {i : Instr} (hi : phaseInstr s.phase = some i) (hx : exec i s = .next t) :
    t.lines = s.lines ∨ ∃ op, portOpOf s i = some op ∧ ∃ a, t.lines = s.lines.after op a := by
  have hrun := MachineState.halted_eq_false_of_phaseInstr hi
  cases hp : s.phase <;> rw [hp] at hi <;> cases hi
  case idle.refl =>
    obtain rfl := Host.Outcome.next.inj hx
    exact .inl (State.leaveIdle_lines s)
  case readT.refl =>
    exact .inr (readPhase_lines State.finishReadT_lines ((MachineState.exec_readT_running hrun).symm.trans hx))
  case readA.refl =>
    exact .inr (readPhase_lines State.finishReadA_lines ((MachineState.exec_readA_running hrun).symm.trans hx))
  case eval.refl =>
    obtain rfl := Host.Outcome.next.inj ((MachineState.exec_eval_running hrun).symm.trans hx)
    exact .inl (by simp)
  case drive.refl =>
    obtain rfl := Host.Outcome.next.inj ((MachineState.exec_drive_running hrun).symm.trans hx)
    exact .inr ⟨_, rfl, portOp_lines s _ fun _ _ => rfl⟩
  case publish.refl =>
    obtain rfl := Host.Outcome.next.inj ((MachineState.exec_publish_running hrun).symm.trans hx)
    exact .inl rfl
  case shutdown.refl => exact .inr (exec_shutdown_lines hrun hx)

/-- Only the first row of 45 R202 drives the buzzer line. -/
theorem shutdownProgram_buz {u : Nat} {op : PortOp} (hop : shutdownProgram[u]? = some op)
    (hbuz : AdcRead.setsLine .buz op = true) : u = 0 := by
  cases u with
  | zero => rfl
  | succ u =>
    have hmem : op ∈ shutdownProgram.tail := List.mem_of_getElem? (by rwa [List.getElem?_tail])
    have hkeep : ∀ op ∈ shutdownProgram.tail, AdcRead.setsLine .buz op = false := by decide
    rw [hkeep op hmem] at hbuz
    cases hbuz

/-- Of the port operations `CTRL` issues, that of `DRIVE` and the first of `SHUTDOWN` drive the buzzer line. -/
theorem phase_of_setsLine_buz {s : State} {i : Instr} {op : PortOp} (hi : phaseInstr s.phase = some i)
    (hop : portOpOf s i = some op) (hbuz : AdcRead.setsLine .buz op = true) :
    s.phase = .drive ∨ (s.phase = .shutdown ∧ s.upc = 0) := by
  cases hp : s.phase <;> rw [hp] at hi <;> cases hi
  case readT.refl | readA.refl =>
    rw [AdcRead.adcProgram_keeps_buz s.ch op (List.mem_of_getElem? hop)] at hbuz
    cases hbuz
  case drive.refl => exact .inl rfl
  case shutdown.refl => exact .inr ⟨rfl, BitVec.eq_of_toNat_eq (shutdownProgram_buz hop hbuz)⟩
  case idle.refl | eval.refl | publish.refl => cases hop

theorem step_tick_lines {s t : State} (he : s.eventAt 0 = .tick) (h : step s = .next t) : t.lines = s.lines := by
  by_cases hp : s.phase = .idle
  · obtain rfl := Host.Outcome.next.inj ((Encoding.step_tick_idle he hp).symm.trans h)
    exact State.leaveIdle_lines s.consumeEvent
  · obtain rfl := Host.Outcome.next.inj ((step_tick_masked he hp).symm.trans h)
    rfl

/-- Settles O47. A line moves only by the port operation of a phase, and few of these name the buzzer. -/
theorem buzzerLineChangesAtDriveOrShutdownOnly : Obligations.BuzzerLineChangesAtDriveOrShutdownOnly := by
  unfold Obligations.BuzzerLineChangesAtDriveOrShutdownOnly
  intro s t hreset h hchange
  cases MachineState.stepEffect_of_step h with
  | reset he => exact absurd he hreset
  | outside => exact absurd rfl hchange
  | ctrl i he hi hx =>
    refine ⟨he.resolve_right fun htick => hchange (by rw [step_tick_lines htick h]), ?_⟩
    rcases lines_of_exec (s := s.consumeEvent) hi hx with hlines | ⟨op, hop, a, hlines⟩
    · exact absurd (congrArg Lines.buz hlines) hchange
    · refine phase_of_setsLine_buz (s := s.consumeEvent) hi hop (Bool.not_eq_false _ ▸ fun hkeep => hchange ?_)
      rw [hlines]
      exact AdcRead.get_after_of_not_setsLine hkeep s.lines a

/-! ## Runs of the machine -/

/-- The first steps of a run, and then the others. -/
theorem run_add {M : Host.Core} {m n : Nat} {s t : M.State} (h : M.run m s = .next t) :
    M.run (m + n) s = M.run n t := by
  induction m generalizing s with
  | zero =>
    obtain rfl := Host.Outcome.next.inj h
    rw [Nat.zero_add]
  | succ m ih =>
    rw [Nat.succ_add]
    simp only [Host.Core.run] at h ⊢
    cases hstep : M.step s with
    | next r =>
      rw [hstep] at h
      exact ih h
    | fault | refused =>
      rw [hstep] at h
      cases h

theorem run_one {s t : State} (h : step s = .next t) : Host.Core.run core 1 s = .next t := by
  have hcore : core.step s = .next t := h
  simp only [Host.Core.run, hcore]

/-- The script has gone on by `m` events and `n` answers. -/
def ScriptMoved (s t : State) (m n : Nat) : Prop :=
  (∀ k, t.eventAt k = s.eventAt (k + m)) ∧ ∀ k, t.answerAt k = s.answerAt (k + n)

theorem ScriptMoved.refl (s : State) : ScriptMoved s s 0 0 := ⟨fun _ => rfl, fun _ => rfl⟩

theorem ScriptMoved.trans {s t u : State} {m n m' n' : Nat} (h : ScriptMoved s t m n) (h' : ScriptMoved t u m' n') :
    ScriptMoved s u (m + m') (n + n') := by
  obtain ⟨hevent, hanswer⟩ := h
  obtain ⟨hevent', hanswer'⟩ := h'
  refine ⟨fun k => ?events, fun k => ?answers⟩
  case events => rw [hevent', hevent, Nat.add_assoc, Nat.add_comm m']
  case answers => rw [hanswer', hanswer, Nat.add_assoc, Nat.add_comm n']

/-- A step without a port operation. -/
theorem ScriptMoved.event {s t : State} (h : t.env = s.env.dropEvent) : ScriptMoved s t 1 0 :=
  ⟨fun k => (State.eventAt_congr (s := s.consumeEvent) h k).trans (State.eventAt_consumeEvent s k),
    State.answerAt_congr (s := s.consumeEvent) h⟩

/-- A step with one port operation. -/
theorem ScriptMoved.portOp {s t : State} (h : t.env = s.env.dropEvent.dropAnswer) : ScriptMoved s t 1 1 :=
  ⟨fun k => (State.eventAt_dropAnswer (s := s.consumeEvent) h k).trans (State.eventAt_consumeEvent s k),
    State.answerAt_dropAnswer (s := s.consumeEvent) h⟩

/-! ## A read phase from its first micro-step to its last (45 R192 to R194) -/

/-- All that a transaction moves between its first micro-step and the end of its phase. -/
def transacted (s : State) (ops : List PortOp) (bits : Nat → Level) (acc : BitVec 8) (upc : BitVec 6) (lines : Lines)
    (env : Env) : State :=
  { s with acc := acc, upc := upc, lines := lines, env := env, trace := s.trace ++ okTrace ops bits }

/-- `t` is `s` after `n` rows of 41 R123, each answered `Ok` in a turn of `CTRL` of its own. -/
structure AfterReadRows (s t : State) (n : Nat) (bits : Nat → Level) : Prop where
  rows : ∃ acc upc lines env, t = transacted s ((adcProgram s.ch).take n) bits acc upc lines env
  upc : t.upc = BitVec.ofNat 6 n
  script : ScriptMoved s t n n
  whole : TransactionLegal t

theorem okTrace_append (ops ops' : List PortOp) (bits : Nat → Level) :
    okTrace (ops ++ ops') bits = okTrace ops bits ++ okTrace ops' fun k => bits (k + ops.length) := by
  induction ops generalizing bits with
  | nil => rfl
  | cons op ops ih => simp [okTrace, ih, Nat.add_assoc]

theorem length_okTrace (ops : List PortOp) (bits : Nat → Level) : (okTrace ops bits).length = ops.length := by
  induction ops generalizing bits with
  | nil => rfl
  | cons op ops ih => simp [okTrace, ih]

/-- The bits a trace shows are those its reads delivered (30 R85). -/
theorem filterMap_entryBit_okTrace (ops : List PortOp) (bits : Nat → Level) :
    (okTrace ops bits).filterMap entryBit = readBits ops bits := by
  induction ops generalizing bits with
  | nil => rfl
  | cons op ops ih => cases op <;> simp [okTrace, readBits, traceEntry, traceOutcome, entryBit, List.filterMap_cons, ih]

/-- The last row of 41 R123 is no read. -/
theorem readBits_take_adcProgram (c : Channel) (bits : Nat → Level) :
    readBits ((adcProgram c).take 36) bits = readBits (adcProgram c) bits := by
  cases c <;> rfl

/-- A completed micro-step writes no register but `ACC`. -/
theorem microAcc_eq (s : State) (op : PortOp) (b : Level) : 
    s.microAcc op b = { s with acc := (s.microAcc op b).acc } := by
  unfold State.microAcc
  cases op with
  | read p => rfl
  | set p l => dsimp only; split <;> rfl

/-- The trace of one more row. -/
theorem okTrace_take_succ {c : Channel} {n : Nat} {op : PortOp} (hop : (adcProgram c)[n]? = some op)
    (bits : Nat → Level) :
    okTrace ((adcProgram c).take (n + 1)) bits =
      okTrace ((adcProgram c).take n) bits ++ [traceEntry op (.ok (bits n))] := by
  obtain ⟨hn, -⟩ := List.getElem?_eq_some_iff.mp hop
  rw [List.take_add_one, hop, okTrace_append, List.length_take_of_le hn.le]
  simp [okTrace]

/-- The last micro-step of a read phase ends in `finish` (45 R193, R194). -/
def EndsIn (p : Phase) (finish : State → State) : Prop :=
  p = .readT ∧ finish = State.finishReadT ∨ p = .readA ∧ finish = State.finishReadA

theorem EndsIn.isRead {p : Phase} {finish : State → State} (h : EndsIn p finish) : p = .readT ∨ p = .readA :=
  h.imp And.left And.left

theorem step_readPhase {s : State} {finish : State → State} (hf : EndsIn s.phase finish) (he : s.eventAt 0 = .ctrl) :
    step s = s.consumeEvent.readPhase finish := by
  rcases hf with ⟨hp, rfl⟩ | ⟨hp, rfl⟩
  · obtain ⟨-, hstep⟩ := Encoding.step_ctrl_of_phase he hp nofun rfl
    rw [hstep, MachineState.exec_readT_running (by simp [State.halted, hp])]
  · obtain ⟨-, hstep⟩ := Encoding.step_ctrl_of_phase he hp nofun rfl
    rw [hstep, MachineState.exec_readA_running (by simp [State.halted, hp])]

theorem AfterReadRows.zero {s : State} (hu : s.upc = 0) (bits : Nat → Level) : AfterReadRows s s 0 bits where
  rows := ⟨s.acc, s.upc, s.lines, s.env, by simp [transacted, okTrace]⟩
  upc := hu
  script := ScriptMoved.refl s
  whole := MachineState.transactionLegal_of_upc_eq_zero hu

/-- The turn after `n` rows runs the same read phase, and `PORT` answers it with the `n`-th answer. -/
theorem AfterReadRows.step_eq {s t : State} {n : Nat} {bits : Nat → Level} {finish : State → State}
    (h : AfterReadRows s t n bits) (hf : EndsIn s.phase finish) (he : s.eventAt n = .ctrl)
    (hok : s.answerAt n = .ok (bits n)) :
    step t = t.consumeEvent.readPhase finish ∧ t.ch = s.ch ∧ t.consumeEvent.answerAt 0 = .ok (bits n) := by
  obtain ⟨⟨acc, upc, lines, env, rfl⟩, -, ⟨hevent, hanswer⟩, -⟩ := h
  refine ⟨step_readPhase hf ?event, rfl, ?answer⟩
  case event => rw [hevent, Nat.zero_add, he]
  case answer => rw [State.answerAt_consumeEvent, hanswer, Nat.zero_add, hok]

/-- One more turn of `CTRL` below row 36 performs one more row. -/
theorem AfterReadRows.succ {s t : State} {n : Nat} {bits : Nat → Level} {finish : State → State}
    (h : AfterReadRows s t n bits) (hn : n < 36) (hf : EndsIn s.phase finish) (he : s.eventAt n = .ctrl)
    (hok : s.answerAt n = .ok (bits n)) :
    ∃ u, step t = .next u ∧ AfterReadRows s u (n + 1) bits := by
  obtain ⟨hread, hch, hanswer⟩ := h.step_eq hf he hok
  obtain ⟨⟨acc, upc, lines, env, hrows⟩, hupc, hscript, hwhole⟩ := h
  have hu : t.upc.toNat = n := by rw [hupc, BitVec.toNat_ofNat]; omega
  obtain ⟨op, hop, hrow⟩ := AdcRead.readPhase_ok (s := t.consumeEvent) (hu.symm ▸ hn) hanswer finish
  rw [State.consumeEvent_ch, State.consumeEvent_upc, hch, hu] at hop
  have hstep := hread.trans hrow
  refine ⟨_, hstep, ⟨((t.consumeEvent.answered op (.ok (bits n))).microAcc op (bits n)).acc, upc + 1,
    lines.after op (.ok (bits n)), env.dropEvent.dropAnswer, ?rows⟩, ?upc, hscript.trans (.portOp (by simp)),
    MachineState.stepKeepsTheTransactionWhole t _ hwhole hstep⟩
  case rows =>
    rw [microAcc_eq, transacted, okTrace_take_succ hop, ← List.append_assoc]
    subst hrows
    rfl
  case upc => simp [hupc, BitVec.ofNat_add]

/-- The first 36 turns of `CTRL` in a read phase perform the first 36 rows. -/
theorem run_readRows {s : State} {bits : Nat → Level} {finish : State → State} (n : Nat) (hn : n ≤ 36)
    (hf : EndsIn s.phase finish) (hu : s.upc = 0) (he : ∀ k < n, s.eventAt k = .ctrl) (hok : AnswersOk s n bits) :
    ∃ t : State, Host.Core.run core n s = .next t ∧ AfterReadRows s t n bits := by
  induction n with
  | zero => exact ⟨s, rfl, .zero hu bits⟩
  | succ n ih =>
    obtain ⟨t, hrun, hrows⟩ := ih (by omega) (fun k hk => he k (by omega)) fun k hk => hok k (by omega)
    obtain ⟨u, hstep, hrows'⟩ := hrows.succ (by omega) hf (he n (by omega)) (hok n (by omega))
    exact ⟨u, (run_add hrun).trans (run_one hstep), hrows'⟩

/-- The part of the trace that belongs to the transaction after its first 36 rows. -/
theorem AfterReadRows.transactionTail_eq {s t : State} {bits : Nat → Level} (h : AfterReadRows s t 36 bits) :
    transactionTail t = okTrace ((adcProgram s.ch).take 36) bits := by
  obtain ⟨⟨acc, upc, lines, env, rfl⟩, hupc, -, -⟩ := h
  have hlen : (okTrace ((adcProgram s.ch).take 36) bits).length = 36 := by
    rw [length_okTrace, List.length_take, adcProgram_length]
    rfl
  have htrace : s.trace.length + 36 - 36 = s.trace.length := Nat.add_sub_cancel _ _
  rw [transactionTail, hupc, transacted, List.length_append, hlen]
  exact (congrArg (List.drop · _) htrace).trans List.drop_left

/-- `ACC` after the 36 rows holds the bits they read (41 R126). -/
theorem AfterReadRows.acc_eq {s t : State} {bits : Nat → Level} (h : AfterReadRows s t 36 bits)
    (hp : s.phase = .readT ∨ s.phase = .readA) : t.acc = sampleOfBits (readBits (adcProgram s.ch) bits) := by
  have htail := h.transactionTail_eq
  obtain ⟨⟨acc, upc, lines, env, hrows⟩, hupc, -, hwhole⟩ := h
  obtain ⟨-, -, -, hacc⟩ := hwhole (by rwa [hrows])
  rw [hacc (by rw [hupc]; decide), htail, filterMap_entryBit_okTrace, readBits_take_adcProgram]

theorem row_36 (c : Channel) : (adcProgram c)[36]? = some (.set .cs true) := by cases c <;> rfl

/-- All that the 37 turns of a read phase do: the transaction of 41 R123, and the end of the phase. -/
theorem run_readPhase {s : State} {bits : Nat → Level} {finish : State → State} (hf : EndsIn s.phase finish)
    (hu : s.upc = 0) (he : ∀ k < 37, s.eventAt k = .ctrl) (hok : AnswersOk s 37 bits) :
    ∃ t lines env,
      t = transacted s (adcProgram s.ch) bits (sampleOfBits (readBits (adcProgram s.ch) bits)) 36 lines env ∧
      Host.Core.run core 37 s = .next (finish t) ∧ ScriptMoved s t 37 37 := by
  obtain ⟨t, hrun, hrows⟩ := run_readRows 36 le_rfl hf hu (fun k hk => he k (by omega)) fun k hk => hok k (by omega)
  obtain ⟨hread, -, hanswer⟩ := hrows.step_eq hf (he 36 (by omega)) (hok 36 (by omega))
  have hacc := hrows.acc_eq hf.isRead
  obtain ⟨⟨acc, upc, lines, env, ht⟩, hupc, hscript, -⟩ := hrows
  have hlast := readPhase_last (s := t.consumeEvent) hupc hanswer finish
  have htrace : okTrace (adcProgram s.ch) bits =
      okTrace ((adcProgram s.ch).take 36) bits ++ [traceEntry (.set .cs true) (.ok (bits 36))] := by
    rw [← okTrace_take_succ (row_36 s.ch), List.take_of_length_le (adcProgram_length s.ch).le]
  refine ⟨_, lines.after (.set .cs true) (.ok (bits 36)), env.dropEvent.dropAnswer, ?state,
    (run_add hrun).trans (run_one (hread.trans hlast)), hscript.trans (.portOp rfl)⟩
  case state =>
    subst ht
    obtain rfl : upc = 36 := hupc
    obtain rfl : acc = _ := hacc
    unfold transacted
    rw [htrace, ← List.append_assoc]
    rfl

/-- Settles O33. What follows the transaction is the record that delivers `ACC`. -/
theorem readTransactionTakes37Steps : Obligations.ReadTransactionTakes37Steps := by
  unfold Obligations.ReadTransactionTakes37Steps
  constructor
  · intro s bits hp hu he hok
    obtain ⟨t, lines, env, rfl, hrun, -⟩ := run_readPhase (.inl ⟨hp, rfl⟩) hu he hok
    refine ⟨_, hrun, ?_⟩
    simp [transacted, SameReading, SameLatches, SameStatus, SameOutside]
  · intro s bits hp hu he hok
    obtain ⟨t, lines, env, rfl, hrun, -⟩ := run_readPhase (.inr ⟨hp, rfl⟩) hu he hok
    refine ⟨_, hrun, ?_⟩
    simp [transacted, SameReading, SameLatches, SameStatus, SameOutside]

/-! ## A whole cycle (45 R192, R199, R206) -/

theorem step_eval {s : State} (he : s.eventAt 0 = .ctrl) (hp : s.phase = .eval) :
    ∃ t, t = s.consumeEvent.evalConvert.evalLight.evalSeeAlarm.decideStep.goto .drive ∧ step s = .next t ∧
      ScriptMoved s t 1 0 := by
  obtain ⟨-, hstep⟩ := Encoding.step_ctrl_of_phase he hp nofun rfl
  rw [MachineState.exec_eval_running (by simp [State.halted, hp])] at hstep
  exact ⟨_, rfl, hstep, .event (by simp)⟩

theorem step_drive_ok {s : State} {b : Level} (he : s.eventAt 0 = .ctrl) (hp : s.phase = .drive)
    (hok : s.answerAt 0 = .ok b) :
    ∃ t, t = (s.consumeEvent.answered (.set .buz (buzzerBit s.buzz)) (.ok b)).goto .publish ∧ step s = .next t ∧
      ScriptMoved s t 1 1 := by
  obtain ⟨-, hstep⟩ := Encoding.step_ctrl_of_phase he hp nofun rfl
  rw [exec_drive_ok (by simp [State.halted, hp]) ((State.answerAt_consumeEvent s 0).trans hok)] at hstep
  exact ⟨_, rfl, hstep, .portOp rfl⟩

theorem step_publish {s : State} (he : s.eventAt 0 = .ctrl) (hp : s.phase = .publish) :
    step s = .next { s.consumeEvent.goto .idle with snap := s.snapshot } := by
  obtain ⟨-, hstep⟩ := Encoding.step_ctrl_of_phase he hp nofun rfl
  rw [MachineState.exec_publish_running (by simp [State.halted, hp])] at hstep
  exact hstep

/-- The three steps after the read phases: `EVAL`, `DRIVE` and `PUBLISH`. -/
theorem run_evalDrivePublish {s : State} {b : Level} (hp : s.phase = .eval) (he : ∀ k < 3, s.eventAt k = .ctrl)
    (hok : s.answerAt 0 = .ok b) :
    ∃ t : State, Host.Core.run core 3 s = .next t ∧ t.phase = .idle ∧ t.upc = 0 ∧
      t.trace = s.trace ++ [traceEntry (.set .buz (buzzerBit t.buzz)) (.ok b)] ∧ t.rawT = s.rawT ∧ t.rawA = s.rawA ∧
      t.alarmSeen = s.alarm ∧ t.snap = t.snapshot ∧ SameLatches s t ∧ SameStatus s t ∧ SameOutside s t := by
  obtain ⟨e, he', heval, hmoved⟩ := step_eval (he 0 (by omega)) hp
  have hevent : e.eventAt 0 = .ctrl := (hmoved.1 0).trans (he 1 (by omega))
  obtain ⟨d, hd, hdrive, hmoved'⟩ := step_drive_ok hevent (by rw [he', State.goto_phase]) ((hmoved.2 0).trans hok)
  have hevent' : d.eventAt 0 = .ctrl := ((hmoved.trans hmoved').1 0).trans (he 2 (by omega))
  have hpublish := step_publish hevent' (by rw [hd, State.goto_phase])
  refine ⟨_, (run_add (run_one heval)).trans ((run_add (run_one hdrive)).trans (run_one hpublish)), rfl, rfl, ?_⟩
  subst hd he'
  refine ⟨by simp, by simp, by simp, by simp, rfl, ?_⟩
  simp [SameLatches, SameStatus, SameOutside]

theorem answersOk_of_scriptMoved {s t : State} {m n l : Nat} {bits : Nat → Level} (h : ScriptMoved s t m n)
    (hok : AnswersOk s (n + l) bits) : AnswersOk t l fun k => bits (k + n) := by
  intro k hk
  rw [h.2]
  exact hok (k + n) (by omega)

theorem step_idle_tick {s : State} (he : s.eventAt 0 = .tick) (hp : s.phase = .idle) (hstop : s.stopReq = false) :
    ∃ t, t = { s.consumeEvent.goto .readT with ch := s.cfg.tempChannel } ∧ step s = .next t ∧ ScriptMoved s t 1 0 := by
  have hstep := Encoding.step_tick_idle he hp
  rw [exec_cycleStart, leaveIdle_cycle (s := s.consumeEvent) hp hstop] at hstep
  exact ⟨_, rfl, hstep, .event rfl⟩

/-- The first 75 steps of a cycle: the start and the two transactions, on the two channels. -/
theorem run_toEval {s : State} {bits : Nat → Level} (hp : s.phase = .idle) (hstop : s.stopReq = false)
    (htick : s.eventAt 0 = .tick) (hctrl : ∀ k, 0 < k → k < 75 → s.eventAt k = .ctrl) (hok : AnswersOk s 74 bits) :
    ∃ t : State, Host.Core.run core 75 s = .next t ∧ ScriptMoved s t 75 74 ∧ t.phase = .eval ∧
      t.trace = s.trace ++ okTrace (adcProgram s.cfg.tempChannel ++ adcProgram (otherChannel s.cfg.tempChannel)) bits ∧
      t.rawT = sampleOfBits (readBits (adcProgram s.cfg.tempChannel) bits) ∧
      t.rawA = sampleOfBits (readBits (adcProgram (otherChannel s.cfg.tempChannel)) fun k => bits (k + 37)) ∧
      SameLatches s t ∧ SameStatus s t ∧ SameOutside s t := by
  obtain ⟨r, hr, hstart, hmoved⟩ := step_idle_tick htick hp hstop
  obtain ⟨t, lines, env, ht, hrunT, hmovedT⟩ := run_readPhase (s := r) (.inl ⟨congrArg State.phase hr, rfl⟩)
    (congrArg State.upc hr)
    (fun k hk => (hmoved.1 k).trans (hctrl (k + 1) (by omega) (by omega)))
    (answersOk_of_scriptMoved (l := 37) hmoved fun k hk => hok k (by omega))
  have hmoved' : ScriptMoved s t.finishReadT 38 37 := hmoved.trans hmovedT
  obtain ⟨u, lines', env', hu, hrunA, hmovedA⟩ := run_readPhase (s := t.finishReadT) (.inr ⟨rfl, rfl⟩) rfl
    (fun k hk => (hmoved'.1 k).trans (hctrl (k + 38) (by omega) (by omega)))
    (answersOk_of_scriptMoved (l := 37) hmoved' fun k hk => hok k (by omega))
  refine ⟨u.finishReadA, (run_add (run_one hstart)).trans ((run_add hrunT).trans hrunA), hmoved'.trans hmovedA, ?_⟩
  subst hu ht hr
  simp [transacted, okTrace_append, SameLatches, SameStatus, SameOutside]

/-- Settles O34. The two transactions, and then `EVAL`, `DRIVE` and `PUBLISH`. -/
theorem faultFreeCycleTakes78Steps : Obligations.FaultFreeCycleTakes78Steps := by
  unfold Obligations.FaultFreeCycleTakes78Steps
  intro s bits hp hstop htick hctrl hok
  obtain ⟨r, hreads, hmoved, hphase, htrace, hrawT, hrawA, ⟨halarm, hstopReq⟩, ⟨hstatus, hreports⟩, ⟨hcfg, hview⟩⟩ :=
    run_toEval hp hstop htick (fun k h0 hk => hctrl k h0 (by omega)) fun k hk => hok k (by omega)
  obtain ⟨t, hrest, hidle, hupc, htrace', hrawT', hrawA', hseen, hsnap, ⟨halarm', hstopReq'⟩, ⟨hstatus', hreports'⟩,
      ⟨hcfg', hview'⟩⟩ :=
    run_evalDrivePublish hphase (fun k hk => (hmoved.1 k).trans (hctrl (k + 75) (by omega) (by omega)))
      ((hmoved.2 0).trans (hok 74 (by omega)))
  obtain ⟨hlight, hbuzzer, halarmState, hvalid, htemp, hthresh⟩ := snapshot_fields t
  rw [← hsnap] at hlight hbuzzer halarmState hvalid htemp hthresh
  refine ⟨t, (run_add hreads).trans hrest, hidle, hupc, ?trace, hrawT'.trans hrawT, hrawA'.trans hrawA,
    hseen.trans halarm, hlight, hbuzzer, halarmState, hvalid, htemp, hthresh,
    ⟨halarm'.trans halarm, hstopReq'.trans hstopReq⟩, ⟨hstatus'.trans hstatus, hreports'.trans hreports⟩,
    ⟨hcfg'.trans hcfg, hview'.trans hview⟩⟩
  case trace =>
    rw [htrace', htrace, okTrace_append _ [_], List.append_assoc]
    simp [okTrace]

end Sys2Proof.Proofs.SamplingLoop

/-! The exceptions of 60: the fault entry on an `IoFault` is one and the same for every operation with a port operation
(R220, R221, R225), and the sampling loop reports nothing else (R223, R227, R232). -/

namespace Sys2Proof.Proofs.Exceptions

open Sys2Proof Sys2Proof.Machine

/-! ## The fault entry of every port operation (60 R221, R225) -/

/-- A micro-step that `PORT` answers with `IoFault` does not reach what the phase does after it. -/
theorem readPhase_ioFault {s : State} {op : PortOp} (hop : (adcProgram s.ch)[s.upc.toNat]? = some op)
    (hfault : s.answerAt 0 = .ioFault) (finish : State → State) :
    s.readPhase finish = .next ((s.answered op .ioFault).enterFault .ioFault (popWord op)) := by
  simp only [State.readPhase, hop, State.microStep_ioFault hfault]

theorem exec_shutdown_ioFault {s : State} {op : PortOp} (hrun : s.halted = false)
    (hop : shutdownProgram[s.upc.toNat]? = some op) (hfault : s.answerAt 0 = .ioFault) :
    exec .shutdown s = .next ((s.answered op .ioFault).enterFault .ioFault (popWord op)) := by
  simp only [exec, execShutdown, State.ctrlStep_running hrun, hop, State.portOp_ioFault hfault]

/-- Whichever operation issues the port operation, an `IoFault` ends it in the same fault entry. -/
theorem exec_ioFault {i : Instr} {s : State} {op : PortOp} (hrun : s.halted = false) (hop : portOpOf s i = some op)
    (hfault : s.answerAt 0 = .ioFault) :
    exec i s = .next ((s.answered op .ioFault).enterFault .ioFault (popWord op)) := by
  cases i with
  | setLine p l =>
    obtain rfl := Option.some.inj hop
    rw [PortOps.exec_setLine_running p l hrun, State.portOp_ioFault hfault]
  | readLine p =>
    obtain rfl := Option.some.inj hop
    rw [PortOps.exec_readLine_running p hrun, State.portOp_ioFault hfault]
  | readT => rw [MachineState.exec_readT_running hrun, readPhase_ioFault hop hfault]
  | readA => rw [MachineState.exec_readA_running hrun, readPhase_ioFault hop hfault]
  | drive =>
    obtain rfl := Option.some.inj hop
    rw [MachineState.exec_drive_running hrun, State.portOp_ioFault hfault]
  | shutdown => exact exec_shutdown_ioFault hrun hop hfault
  | adcRead | convTemp | convThresh | convLight | decide | arm | disarm | toggle | stop | cycleStart | eval
  | publish => cases hop

/-- Settles O22. All six forms end in the one fault entry, and `portFault_spec` says what that writes. -/
theorem ioFaultEntry : Obligations.IoFaultEntry := by
  unfold Obligations.IoFaultEntry
  intro i s op hrun hop hfault
  obtain ⟨hport, hentered, hframe⟩ := PortOps.portFault_spec s op rfl
  exact ⟨_, exec_ioFault hrun hop hfault, hentered, hport, hframe⟩

/-! ## What the sampling loop reports (60 R223, R227, R232) -/

/-- Of the effects an operation of `CTRL` can have, the entry on an `IoFault` alone emits a report: a
`ConversionFault` is absorbed in `EVAL`, and no phase calls `ADC_READ` with an operand (41 R121). -/
theorem reports_of_ctrlEffect {s t : State} (h : MachineState.CtrlEffect s t) :
    t.reports = s.reports ∨
      ∃ r, t.reports = s.reports ++ [r] ∧ r.code = .ioFault ∧ s.phase ≠ .faulted ∧ t.phase = .faulted := by
  cases h with
  | fault op hrun =>
    exact .inr ⟨⟨.ioFault, popWord op, phaseCode s.phase, s.upc⟩, rfl, rfl,
      MachineState.phase_ne_faulted_of_running hrun, rfl⟩
  | beginShutdown | beginCycle | readRow | endReadT | endReadA | eval | drive | publish | shutdownRow
  | endShutdown => exact .inl (by simp)

/-- Settles O48. The agents outside `CTRL` report nothing, and `CTRL` has the effects above. -/
theorem theLoopReportsOnlyIoFaults : Obligations.TheLoopReportsOnlyIoFaults := by
  unfold Obligations.TheLoopReportsOnlyIoFaults
  intro s t hreset h
  cases MachineState.stepEffect_of_step h with
  | reset he => exact absurd he hreset
  | outside => exact .inl rfl
  | ctrl i _ hi hx =>
    have heffect := MachineState.ctrlEffect_of_exec (s := s.consumeEvent) hi hx
    exact reports_of_ctrlEffect (s := s.consumeEvent) heffect

end Sys2Proof.Proofs.Exceptions

/-! Reset and the hazards of 70: a reset that comes at run time, in any phase, leaves the machine at the values of 10 R44
under its own configuration and uses no answer of `PORT` (R260, R261). -/

namespace Sys2Proof.Proofs.ResetHazards

open Sys2Proof Sys2Proof.Machine

/-! ## A reset at run time (70 R260, R261) -/

theorem step_of_reset {s : State} (he : s.eventAt 0 = .reset) : step s = .next s.consumeEvent.resetNow := by
  rw [step_spec, he]

@[simp] theorem answerAt_resetNow (s : State) (k : Nat) : s.resetNow.answerAt k = s.answerAt k := rfl

/-- Settles O11. A reset does not look at the phase, and what it leaves differs from the machine right after power-up
(O10) in the script and `VIEW`'s reads alone, which are not among the values of 10 R44. -/
theorem resetLeavesEveryState : Obligations.ResetLeavesEveryState := by
  unfold Obligations.ResetLeavesEveryState
  intro s he
  have hanswers (k : Nat) : s.consumeEvent.resetNow.answerAt k = s.answerAt k := by simp
  obtain ⟨hcfg, hvalues⟩ := MachineState.resetLeavesTheTableOfValues s.cfg _ rfl
  exact ⟨s.consumeEvent.resetNow, step_of_reset he, hcfg, hanswers, hvalues⟩

end Sys2Proof.Proofs.ResetHazards
